-- ==== Sys2Proof/Word.lean ====
section
/-! DEFINITION. The words and index types of the OT416, and the two ways a fixed table of like things is changed. -/

namespace Sys2Proof

/-- One byte of a frame (00_scope.md 1.5.6). -/
abbrev Byte := BitVec 8

/-- A time value as the 52-bit number Seconds × 2^20 + Fraction (00_scope.md 1.5.4, R2). -/
abbrev TimeValue := BitVec 52

/-- The sequence number of a capture record, 32 bits and wrapping (R131). -/
abbrev Seq := BitVec 32

/-- A client port, CP0 to CP3 (R164). -/
abbrev Port := Fin 4

/-- An output line, OL0 to OL7. -/
abbrev Line := Fin 8

/-- A capture input, CI0 to CI7. -/
abbrev Input := Fin 8

/-- A claimable resource: 0 to 7 the lines, 8 to 15 the inputs, 16 TIME (R40). -/
abbrev Resource := Fin 17

/-- A slot of the Action Table (R57). -/
abbrev Slot := Fin 64

/-- A phase, one sixteenth of a tick (00_scope.md 1.5.3). -/
abbrev Phase := Fin 16

/-- Change one element of a table. -/
def upd {α : Type} {n : Nat} (v : Vector α n) (i : Fin n) (f : α → α) : Vector α n :=
  v.set i (f v[i])

/-- Change every element of a table, each by its own index. -/
def each {α : Type} {n : Nat} (v : Vector α n) (f : Fin n → α → α) : Vector α n :=
  Vector.ofFn fun i => f i v[i]

end Sys2Proof
end

