-- ==== Sys2Proof/Syntax.lean ====
section
/-! DEFINITION. The commands of the OT416: one constructor of Instr for each row of spec/opcode_table.json. -/

namespace Sys2Proof

/-- The steps that a prescaler tick (or the end of a PORT RESET's response) makes due, each a row of the table. -/
inductive Event where
  | slewDone
  | windowEnd
  | crossing
  | pulseEnd (l : Line)
  | waveHighEnd (l : Line)
  | waveCycleEnd (l : Line)
  | waveCompletion (l : Line)
  | calStepStart
  | calLeadingEdge
  | calTrialJudged
  | calTrailingEdge
  | calStepJudged
  | calRunEnd
  | edgeAccepted (i : Input)
  | refpEdge
  | portResetTaken (p : Port)
deriving DecidableEq, Repr

/-- What the board gives the part for a prescaler tick: bit i of `levels` is the level of CIi at the tick's boundary, and
`changes[i]` holds the phases in which the raw input CIi changed level within the capture interval that ends there, in
order of time (R124); `refp` is the level of REFP (R23). -/
structure TickInput where
  levels : BitVec 8
  changes : Vector (List Phase) 8
  refp : Bool
deriving DecidableEq, Repr

/-- Which order is taken where the spec lets a tick's steps be taken either first (log 9, log 21): the steps of `early`
come before the firing check of the tick's advance (R86, R118, R151), and with `refpAfter` an edge of the tick before
is handled after this tick's count (R19, R29), and before a crossing of this tick unless `early` names that (R31). -/
structure TickOrder where
  early : List Event
  refpAfter : Bool
deriving DecidableEq, Repr

/-- The two causes of a device reset (R22). -/
inductive ResetCause where
  | nrstLow
  | mainReturn
deriving DecidableEq, Repr

/-- The commands, one constructor for each row of the table. A client command stands for the arrival of the check byte
of its frame on port `p`, with the argument bytes as they were sent (R166). -/
inductive Instr where
  | identify (p : Port) (args : List Byte)
  | readStatus (p : Port) (args : List Byte)
  | portReset (p : Port) (args : List Byte)
  | portResetTaken (p : Port)
  | readTime (p : Port) (args : List Byte)
  | hold (p : Port) (args : List Byte)
  | loadTime (p : Port) (args : List Byte)
  | run (p : Port) (args : List Byte)
  | setTrim (p : Port) (args : List Byte)
  | slew (p : Port) (args : List Byte)
  | setReference (p : Port) (args : List Byte)
  | readReference (p : Port) (args : List Byte)
  | claim (p : Port) (args : List Byte)
  | release (p : Port) (args : List Byte)
  | queryClaims (p : Port) (args : List Byte)
  | schedule (p : Port) (args : List Byte)
  | cancel (p : Port) (args : List Byte)
  | queryEntry (p : Port) (args : List Byte)
  | listEntries (p : Port) (args : List Byte)
  | configureLine (p : Port) (args : List Byte)
  | readLine (p : Port) (args : List Byte)
  | configureInput (p : Port) (args : List Byte)
  | subscribe (p : Port) (args : List Byte)
  | readCaptures (p : Port) (args : List Byte)
  | readCounters (p : Port) (args : List Byte)
  | clearCounter (p : Port) (args : List Byte)
  | calibrate (p : Port) (args : List Byte)
  | readCalibration (p : Port) (args : List Byte)
  | takeNotices (p : Port) (args : List Byte)
  | setAttention (p : Port) (args : List Byte)
  | badCommand (p : Port) (code : Byte) (args : List Byte)
  | badFrame (p : Port) (code : Byte) (args : List Byte) (check : Byte)
  | pncsFall (p : Port)
  | pncsRise (p : Port) (clocked : Bool)
  | argumentLengthOver24 (p : Port) (code : Byte) (length : Byte)
  | pnrstFall (p : Port)
  | pnrstRise (p : Port)
  | deviceReset (cause : ResetCause)
  | nrstRise
  | retainedReset
  | mainSupplyLoss
  | vddrLoss
  | prescalerTick (samples : TickInput) (order : TickOrder)
  | slewDone
  | windowEnd
  | pulseEnd (l : Line)
  | waveHighEnd (l : Line)
  | waveCycleEnd (l : Line)
  | waveCompletion (l : Line)
  | refpEdge
  | crossing
  | edgeAccepted (i : Input)
  | calStepStart
  | calLeadingEdge
  | calTrialJudged
  | calTrailingEdge
  | calStepJudged
  | calRunEnd
  | lastResponseByteSent (p : Port)
deriving DecidableEq, Repr

end Sys2Proof
end

