-- ==== Sys2Proof/Decode.lean ====
section
/-! DEFINITION. Reading a command from a word. No row of spec/opcode_table.json gives bits (its frames are byte strings of
up to 27 bytes, not words), so no word spells a command (log 4). -/

namespace Sys2Proof

/-- The command that a word spells by the table's bits: none, since no row of the table gives bits (log 4). -/
def decodeTableWord (_nbits _w : Nat) : Option Instr := none

end Sys2Proof
end

