-- ==== Sys2Proof/Machine/Operands.lean ====
section
/-! DEFINITION. Bytes: the parts of a time value, big-endian fields of arguments and payloads, two's complement, the
check byte and the command codes (00_scope.md 1.5, R166, R174). -/

namespace Sys2Proof.Machine

/-! ### Time values (R2, 00_scope.md 1.5.4) -/

/-- Seconds of a time value. -/
def seconds (t : TimeValue) : Nat := t.toNat / 2 ^ 20

/-- Fraction of a time value, ticks within the second. -/
def fraction (t : TimeValue) : Nat := t.toNat % 2 ^ 20

/-- The time value seconds:ticks. -/
def timeOf (s f : Nat) : TimeValue := BitVec.ofNat 52 (s * 2 ^ 20 + f)

/-! ### Fields of the arguments -/

/-- Argument byte k, counted from 0. -/
def arg (args : List Byte) (k : Nat) : Nat := (args.getD k 0).toNat

/-- The unsigned field of n bytes that begins at byte k, most significant byte first (R174). -/
def field (args : List Byte) (k : Nat) : Nat → Nat
  | 0 => 0
  | n + 1 => field args k n * 256 + arg args (k + n)

/-- A field of n bytes read as two's complement (R174). -/
def signedField (args : List Byte) (k n : Nat) : Int :=
  (BitVec.ofNat (8 * n) (field args k n)).toInt

/-- The time value of 7 bytes at byte k: Seconds in 4 bytes, Fraction in 3 (11.7.1). Meaningful when
`timeFieldOk` holds. -/
def timeField (args : List Byte) (k : Nat) : TimeValue :=
  timeOf (field args k 4) (field args (k + 4) 3)

/-- The Fraction of the time value at byte k is less than 2^20 (R6, R175). -/
def timeFieldOk (args : List Byte) (k : Nat) : Bool :=
  decide (field args (k + 4) 3 < 2 ^ 20)

/-- The index below n that byte k holds, if it is one. -/
def indexField (n : Nat) (args : List Byte) (k : Nat) : Option (Fin n) :=
  if h : arg args k < n then some ⟨arg args k, h⟩ else none

/-! ### Fields of the payloads -/

/-- n bytes that hold x, most significant byte first (R174). -/
def bytes : Nat → Nat → List Byte
  | 0, _ => []
  | n + 1, x => BitVec.ofNat 8 (x / 256 ^ n) :: bytes n x

/-- n bytes that hold the integer x in two's complement (R174). -/
def signedBytes (n : Nat) (x : Int) : List Byte :=
  bytes n (BitVec.ofInt (8 * n) x).toNat

/-- The seven bytes of a time value (11.7.1). -/
def timeBytes (t : TimeValue) : List Byte :=
  bytes 4 (seconds t) ++ bytes 3 (fraction t)

/-- A port number as a byte, 0xFF for none (R46, R56). -/
def portByte : Option Port → Byte
  | some p => BitVec.ofNat 8 p
  | none => 0xFF

/-- A bit as the number 0 or 1. -/
def bit (b : Bool) : Nat := if b then 1 else 0

/-! ### The check byte (R166) -/

/-- One of the eight shifts of a byte: left by one place, with 0x07 combined when the bit shifted out was 1. -/
def crcShift (r : Byte) : Byte :=
  if r.msb then (r <<< 1) ^^^ 0x07 else r <<< 1

/-- The register after one more byte. -/
def crcByte (r b : Byte) : Byte :=
  crcShift (crcShift (crcShift (crcShift (crcShift (crcShift (crcShift (crcShift (r ^^^ b))))))))

/-- The check byte over a list of bytes. -/
def crc8 (bs : List Byte) : Byte := bs.foldl crcByte 0

/-- The bytes of a command frame that its check byte covers: code, length, arguments (R165). -/
def frameBody (code : Byte) (args : List Byte) : List Byte :=
  code :: BitVec.ofNat 8 args.length :: args

/-- The command codes of 11.4. -/
def commandCodes : List Byte :=
  [0x01, 0x02, 0x03, 0x10, 0x11, 0x12, 0x13, 0x14, 0x15, 0x18, 0x19, 0x20, 0x21, 0x22, 0x30,
   0x31, 0x32, 0x33, 0x40, 0x41, 0x50, 0x51, 0x52, 0x53, 0x54, 0x60, 0x61, 0x70, 0x71]

/-- A step that may come before the firing check of its tick's advance: every step of a tick but the handling of a
REFP edge, which follows the check (R103, log 9). -/
def mayPrecedeCheck : Event → Bool
  | .refpEdge => false
  | .portResetTaken _ => false
  | _ => true

end Sys2Proof.Machine
end

