-- ==== Sys2Proof/Config.lean ====
section
/-! DEFINITION. The sizes and identification constants the spec fixes. The spec calls no value undefined, so
there is no free value here (NOTES.md, Assumptions). -/

namespace Sys2Proof.Config

/-- Records the Capture Log holds at most (R133). -/
def logCapacity : Nat := 128

/-- Notices a port's queue holds at most (R157). -/
def queueCapacity : Nat := 16

/-- Entries one port may own (R57). -/
def quota : Nat := 24

/-- Argument bytes a command frame holds at most (R165). -/
def maxArguments : Nat := 24

/-- The largest window, pulse width and wave period take these limits (R36, R61, R119). -/
def maxWindow : Nat := 524287

/-- Least window of the RDU (R36). -/
def minWindow : Nat := 16

/-- Largest pulse width and wave period, in prescaler ticks (R61, R119). -/
def maxTicks : Nat := 1048576

/-- Vendor code of IDENTIFY (R169). -/
def vendor : Nat := 0x0A3C

/-- Part code of IDENTIFY (R169). -/
def part : Nat := 0x0416

/-- Revision of IDENTIFY (R169). -/
def revision : Nat := 0x01

end Sys2Proof.Config
end

