-- ==== Sys2Proof/Machine/State.lean ====
section
/-! DEFINITION. The state of the OT416: every item the spec gives its units, the queue of waiting commands, and the
state after reset. -/

namespace Sys2Proof.Machine

/-- The timebase states (R4). -/
inductive Timebase where
  | unset
  | held
  | running
deriving DecidableEq, Repr

/-- The reference states (R25). -/
inductive RefState where
  | off
  | searching
  | locked
  | holdover
deriving DecidableEq, Repr

/-- The Reference Discipline Unit: configuration, state, discipline record and internal indications (R23 to R39). -/
structure Rdu where
  state : RefState
  enable : Bool
  wide : Nat
  narrow : Nat
  autoTrim : Bool
  lastOffset : Int
  sum : Int
  lastSum : Int
  realignments : BitVec 16
  misses : Nat
  strays : BitVec 16
  crossingDue : Bool
  credit : Bool
  /-- The level of the most recent REFP sample (R23). -/
  refpSample : Bool
  /-- No sample has been taken since device reset, so the next one detects no edge (R23). -/
  refpFresh : Bool
  /-- The edge time of the latest detected edge (R23). -/
  edgeTime : TimeValue
deriving DecidableEq, Repr

/-- The RDU after device reset (R39). -/
def Rdu.reset : Rdu :=
  { state := .off, enable := false, wide := 32768, narrow := 1024, autoTrim := false, lastOffset := 0, sum := 0,
    lastSum := 0, realignments := 0, misses := 0, strays := 0, crossingDue := false, credit := false,
    refpSample := false, refpFresh := true, edgeTime := 0 }

/-- A claim record (R40): the holder, and the waiters in order of arrival. -/
structure ClaimRecord where
  holder : Option Port
  waiters : List Port
deriving DecidableEq, Repr

/-- The claim record after device reset (R41). -/
def ClaimRecord.reset : ClaimRecord := { holder := none, waiters := [] }

/-- A number of occurrences or cycles that may be without limit (R63, R113). -/
inductive Count where
  | unlimited
  | finite (n : Nat)
deriving DecidableEq, Repr

/-- The action an entry delivers to its line (R62). -/
inductive LineAction where
  | set
  | clear
  | toggle
  | pulse (width : Nat)
  | waveStart
  | waveStop
deriving DecidableEq, Repr

/-- The Kind of an entry with its Line and, for PULSE, its Width; a MARK has neither (R61, R62). -/
inductive Job where
  | act (line : Line) (action : LineAction)
  | mark
deriving DecidableEq, Repr

/-- The form of an entry; the armed form holds its Trigger input, Offset and Rearm (R61). -/
inductive Form where
  | timed
  | armed (trigger : Input) (offset : BitVec 24) (rearm : Bool)
deriving DecidableEq, Repr

/-- The Late policy of an entry (R61). -/
inductive LatePolicy where
  | drop
  | fire
deriving DecidableEq, Repr

/-- The Notify setting of an entry (R93). -/
inductive Notify where
  | never
  | last
  | all
deriving DecidableEq, Repr

/-- Period and Initial count of a repeating entry (R61). -/
structure Repeat where
  period : Nat
  initial : Count
deriving DecidableEq, Repr

/-- One entry of the Action Table (R61). It is PENDING when it has a Due and ARMED when it has none (R64); its handle is
the generation and number of the slot that holds it (R60). -/
structure Entry where
  owner : Port
  job : Job
  form : Form
  due : Option TimeValue
  series : Option Repeat
  remaining : Count
  late : LatePolicy
  notify : Notify
  tag : BitVec 16
deriving DecidableEq, Repr

/-- A handle: generation and slot (R60). -/
structure Handle where
  gen : Byte
  slot : Slot
deriving DecidableEq, Repr

/-- The running wave copy (R113). -/
structure WaveCopy where
  period : Nat
  high : Nat
  idle : Bool
  left : Count
  position : Nat
deriving DecidableEq, Repr

/-- The activity of a line, with the timer that runs in it (R107, R112, R113). -/
inductive Activity where
  | steady
  | pulsing (remainder : Nat)
  | waving (copy : WaveCopy)
  | calibrating
deriving DecidableEq, Repr

/-- A Line Unit: configuration, current level, activity, and its pin (R106 to R120). -/
structure LineUnit where
  idle : Bool
  level : Bool
  fineDelay : Phase
  wavePeriod : Nat
  waveHigh : Nat
  /-- Wave cycles as configured, 0 for UNLIMITED (R119). -/
  waveCycles : Nat
  waveDone : Bool
  activity : Activity
  /-- The level on the pin since the last edge (R108). -/
  pin : Bool
  /-- The phase of the edge made at the latest prescaler tick boundary, if one was made (R108). -/
  pinEdge : Option Phase
deriving DecidableEq, Repr

/-- A Line Unit after device reset (R123). -/
def LineUnit.reset : LineUnit :=
  { idle := false, level := false, fineDelay := 0, wavePeriod := 1024, waveHigh := 512, waveCycles := 0,
    waveDone := false, activity := .steady, pin := false, pinEdge := none }

/-- The edge select of an input (R127). -/
inductive EdgeSelect where
  | none
  | rising
  | falling
  | both
deriving DecidableEq, Repr

/-- The filter length of an input, in samples (R128). -/
inductive FilterLength where
  | one
  | two
  | four
  | eight
deriving DecidableEq, Repr

/-- The stamp of an edge, taken at its first sample (R126). -/
structure Stamp where
  time : TimeValue
  phase : Phase
  notRunning : Bool
  refLocked : Bool
deriving DecidableEq, Repr

/-- A filter candidate: the length of its run and the stamp of its first sample (R125). -/
structure Candidate where
  length : Nat
  stamp : Stamp
deriving DecidableEq, Repr

/-- An input channel of the Capture Unit (R124 to R129). -/
structure Channel where
  edgeSelect : EdgeSelect
  filter : FilterLength
  accepted : Bool
  /-- No sample has been taken since device reset, so the next one sets the accepted level (R125). -/
  fresh : Bool
  sample : Bool
  prevSample : Bool
  /-- What the phase detector recorded for the latest capture interval: the phase of the last change, if there was one
  (R124). -/
  lastChange : Option Phase
  candidate : Option Candidate
  /-- The stamp of an edge whose run is complete and whose acceptance step is due (log 1). -/
  ready : Option Stamp
  counter : BitVec 32
deriving DecidableEq, Repr

/-- An input channel after device reset (R142). -/
def Channel.reset : Channel :=
  { edgeSelect := .none, filter := .one, accepted := false, fresh := true, sample := false, prevSample := false,
    lastChange := none, candidate := none, ready := none, counter := 0 }

/-- A record of the Capture Log (R131); `rising` is its Edge. -/
structure CaptureRecord where
  seq : Seq
  input : Input
  rising : Bool
  time : TimeValue
  phase : Phase
  notRunning : Bool
  refLocked : Bool
  stepped : Bool
deriving DecidableEq, Repr

/-- The Kind of a notice (R156). -/
inductive NoticeKind where
  | fired
  | firedLate
  | dropped
  | waveDone
  | granted
  | calDone
  | timeChanged
  | refState
deriving DecidableEq, Repr

/-- A notice record (R155); an absent Handle or Tag is none. -/
structure Notice where
  kind : NoticeKind
  handle : Option Handle
  tag : Option (BitVec 16)
  time : TimeValue
  detail : BitVec 24
deriving DecidableEq, Repr

/-- The frame reception state of a port (R165). -/
inductive Rx where
  | closed
  | command
  | response
  | trailing
deriving DecidableEq, Repr

/-- A client port with its part of the Notice Unit and of the Capture Unit (R137, R155 to R162, R164 to R172). -/
structure Client where
  rx : Rx
  /-- The bytes of the response frame being sent (R165). -/
  response : List Byte
  frameErrors : BitVec 16
  inReset : Bool
  /-- A PORT RESET command has been taken and its response has not ended (R171). -/
  resetPending : Bool
  csLow : Bool
  rstLow : Bool
  queue : List Notice
  notice : Bool
  capture : Bool
  loss : Bool
  /-- The attention mask: bit 0 NOTICE, bit 1 CAPTURE, bit 2 LOSS (R162). -/
  mask : BitVec 3
  lostNotices : BitVec 16
  cursor : Seq
  subscription : BitVec 8
  lostCaptures : BitVec 16
deriving DecidableEq, Repr

/-- A client port after device reset, with PnCS and PnRST high (R142, R163, R173; the pins by log 5). -/
def Client.reset : Client :=
  { rx := .closed, response := [], frameErrors := 0, inReset := false, resetPending := false, csLow := false,
    rstLow := false, queue := [], notice := false, capture := false, loss := false, mask := 0, lostNotices := 0,
    cursor := 0, subscription := 0, lostCaptures := 0 }

/-- The run state of the Calibration Engine (R143). -/
structure CalRun where
  requester : Port
  line : Line
  input : Input
  savedDelay : Phase
  /-- The engine count, 0 to 65,535. -/
  count : Nat
  /-- Engine tick 0 has been handled, so the next tick increases the count (R146). -/
  begun : Bool
  /-- Outcomes of trials 0 to 3 of the current step; none is not yet judged. -/
  trials : Vector (Option Bool) 4
  passMask : BitVec 16
deriving DecidableEq, Repr

/-- The result of a run (R149). -/
inductive CalOutcome where
  | none
  | pass
  | nonePass
  | gap
  | aborted
deriving DecidableEq, Repr

/-- The reason of an abort (R150). -/
inductive AbortReason where
  | action
  | hold
  | release
  | portReset
deriving DecidableEq, Repr

/-- The calibration result record of a line (R153). -/
structure CalResult where
  outcome : CalOutcome
  reason : Option AbortReason
  passMask : BitVec 16
  lower : Option Phase
  upper : Option Phase
  input : Option Input
deriving DecidableEq, Repr

/-- The result record after device reset (R154). -/
def CalResult.reset : CalResult :=
  { outcome := .none, reason := none, passMask := 0, lower := none, upper := none, input := none }

/-- Why the machine stops with a fault. The spec names no such stop: a wrong frame or argument is answered with a status
(R168), so no fault exists and none is raised. -/
inductive Fault where
deriving DecidableEq, Repr

/-- Why a command is refused. -/
inductive Refusal where
  /-- Raised only by an arm of exec whose command has no meaning yet; no arm does. Safe: the machine stops. -/
  | notModelled (mnemonic : String)
deriving DecidableEq, Repr

/-- The state of the part (INVENTORY.md, State). -/
structure State where
  /-- The main supply is present. -/
  vddm : Bool
  /-- The retained supply is at its operating level. -/
  vddr : Bool
  /-- NRST is driven low. -/
  nrstLow : Bool
  /-- TCLK edges counted by the prescaler since its last tick (R1). -/
  prescaler : Fin 8
  time : TimeValue
  timebase : Timebase
  /-- The trim-window position (R12). -/
  position : BitVec 24
  /-- The trim setting (R13). -/
  trim : Int
  /-- The window trim (R13). -/
  windowTrim : Int
  /-- The slew remainder (R16). -/
  slew : Int
  /-- The time value of the latest prescaler tick (R2). -/
  tickTime : TimeValue
  rdu : Rdu
  claims : Vector ClaimRecord 17
  slots : Vector (Option Entry) 64
  gens : Vector Byte 64
  dueOrder : List Slot
  lines : Vector LineUnit 8
  inputs : Vector Channel 8
  log : List CaptureRecord
  nextSeq : Seq
  /-- The discontinuity marker (R132). -/
  marker : Bool
  calRun : Option CalRun
  results : Vector CalResult 8
  ports : Vector Client 4
  /-- The steps of the latest prescaler tick, and the port resets, that are due and not yet taken (log 1). -/
  work : List Event
  /-- The queue of waiting commands, first in, first out. -/
  pending : List Instr
deriving DecidableEq, Repr

/-- The part right after a retained reset, which includes a device reset (R21), with both supplies present, every reset
and select input high (log 5), and nothing commanded. -/
def State.reset : State :=
  { vddm := true, vddr := true, nrstLow := false, prescaler := 0, time := 0, timebase := .unset, position := 0,
    trim := 0, windowTrim := 0, slew := 0, tickTime := 0, rdu := Rdu.reset,
    claims := Vector.replicate 17 ClaimRecord.reset, slots := Vector.replicate 64 none,
    gens := Vector.replicate 64 0, dueOrder := [], lines := Vector.replicate 8 LineUnit.reset,
    inputs := Vector.replicate 8 Channel.reset, log := [], nextSeq := 0, marker := false, calRun := none,
    results := Vector.replicate 8 CalResult.reset, ports := Vector.replicate 4 Client.reset, work := [],
    pending := [] }

end Sys2Proof.Machine
end

