-- ==== Sys2Proof/Machine/Ops.lean ====
section
/-! DEFINITION. The operations every unit shares: power and pins, changing one port, line or input, the claim check,
storing notices, and forming a response. -/

namespace Sys2Proof.Machine

/-- What a step answers. -/
abbrev Outcome := Host.Outcome State Fault Refusal

/-- A 16-bit count that saturates at 65,535 (00_scope.md 1.5.1). -/
def satInc (c : BitVec 16) : BitVec 16 := if c = 65535 then c else c + 1

/-! ### Power (R1, R20, R22) -/

/-- The main domain works: both supplies are present and NRST is high. -/
def State.active (s : State) : Bool := s.vddm && s.vddr && !s.nrstLow

/-- The timebase is RUNNING (R4). -/
def State.running (s : State) : Bool := s.timebase == .running

/-! ### One port, line, input, claim record -/

/-- Change one port. -/
def State.updPort (s : State) (p : Port) (f : Client → Client) : State := { s with ports := upd s.ports p f }

/-- Change one Line Unit. -/
def State.updLine (s : State) (l : Line) (f : LineUnit → LineUnit) : State := { s with lines := upd s.lines l f }

/-- Change one input channel. -/
def State.updInput (s : State) (i : Input) (f : Channel → Channel) : State := { s with inputs := upd s.inputs i f }

/-- Change one claim record. -/
def State.updClaim (s : State) (r : Resource) (f : ClaimRecord → ClaimRecord) : State :=
  { s with claims := upd s.claims r f }

/-- The steps that are due lose those that `gone` names. -/
def State.dropWork (s : State) (gone : Event → Bool) : State := { s with work := s.work.filter fun e => !gone e }

/-! ### Resources and the claim check (R40, R42) -/

/-- The resource number of a line, 0 to 7. -/
def lineResource (l : Line) : Resource := ⟨l.val, by omega⟩

/-- The resource number of an input, 8 to 15. -/
def inputResource (i : Input) : Resource := ⟨i.val + 8, by omega⟩

/-- The resource number of TIME. -/
def timeResource : Resource := 16

/-- The claim check: port p is the holder of r (R42). -/
def State.holds (s : State) (p : Port) (r : Resource) : Bool := s.claims[r].holder == some p

/-! ### Notices (R155 to R159) -/

/-- A notice offered to one port: discarded without account while the port is in reset (R159), discarded and counted when
the queue is full (R158), stored at the back otherwise (R157). -/
def Client.store (c : Client) (n : Notice) : Client :=
  if c.inReset then c
  else if c.queue.length < Config.queueCapacity then { c with queue := c.queue ++ [n], notice := true }
  else { c with lostNotices := satInc c.lostNotices, loss := true }

/-- Offer an addressed notice to the queue of its port (R157). -/
def State.offer (s : State) (p : Port) (n : Notice) : State := s.updPort p fun c => c.store n

/-- Offer a broadcast notice to all four queues (R157). The four offers are one, so that no other event's notice comes
between them: the model's choice (log 29). -/
def State.broadcast (s : State) (n : Notice) : State := { s with ports := each s.ports fun _ c => c.store n }

/-- A notice without Handle and Tag (R155). -/
def plainNotice (kind : NoticeKind) (time : TimeValue) (detail : Nat) : Notice :=
  { kind := kind, handle := none, tag := none, time := time, detail := BitVec.ofNat 24 detail }

/-- The cause codes of TIME_CHANGED (R11). -/
inductive TimeCause where
  | held
  | loaded
  | resumed
  | slewDone
  | slewCancelled
  | acquired
deriving DecidableEq, Repr

/-- The code of a cause (R11). -/
def causeCode : TimeCause → Nat
  | .held => 0
  | .loaded => 1
  | .resumed => 2
  | .slewDone => 3
  | .slewCancelled => 4
  | .acquired => 5

/-- Broadcast TIME_CHANGED (R11). -/
def State.timeChanged (s : State) (cause : TimeCause) (time : TimeValue) : State :=
  s.broadcast (plainNotice .timeChanged time (causeCode cause))

/-- The code of a reference state (R38). -/
def refCode : RefState → Nat
  | .off => 0
  | .searching => 1
  | .locked => 2
  | .holdover => 3

/-- Broadcast REF_STATE with the new state (R38). -/
def State.refStateChanged (s : State) (new : RefState) (time : TimeValue) : State :=
  s.broadcast (plainNotice .refState time (refCode new))

/-- The code of a timebase state (R7). -/
def timebaseCode : Timebase → Nat
  | .unset => 0
  | .held => 1
  | .running => 2

/-! ### Responses (R165, R166, R168) -/

/-- The status of a response (R168). -/
inductive Status where
  | ok
  | queued
  | badFrame
  | badCommand
  | badArg
  | notHolder
  | heldBy
  | busy
  | noTime
  | past
  | full
  | quota
  | unknownHandle
  | conflict
  | state
deriving DecidableEq, Repr

/-- The status codes (R168). -/
def statusCode : Status → Byte
  | .ok => 0
  | .queued => 1
  | .badFrame => 2
  | .badCommand => 3
  | .badArg => 4
  | .notHolder => 5
  | .heldBy => 6
  | .busy => 7
  | .noTime => 8
  | .past => 9
  | .full => 10
  | .quota => 11
  | .unknownHandle => 12
  | .conflict => 13
  | .state => 14

/-- The response frame: status, payload length, payload, check byte over the three (R165, R166). -/
def responseFrame (status : Status) (payload : List Byte) : List Byte :=
  let body := statusCode status :: BitVec.ofNat 8 payload.length :: payload
  body ++ [crc8 body]

/-- The port begins to send a response (R165). -/
def State.respond (s : State) (p : Port) (status : Status) (payload : List Byte) : State :=
  s.updPort p fun c => { c with rx := .response, response := responseFrame status payload }

/-- What a block makes of a command: the state after it, the status and the payload (R166). -/
structure Answer where
  state : State
  status : Status
  payload : List Byte
deriving DecidableEq, Repr

/-- A refusal: no state changes and the payload is empty (R168). -/
def State.refuse (s : State) (status : Status) : Answer := { state := s, status := status, payload := [] }

/-- A command carried out. -/
def State.ok (s : State) (payload : List Byte) : Answer := { state := s, status := .ok, payload := payload }

/-- The port can take a frame now: the part works, the port's PnRST is high and a transaction is open in COMMAND
(R164, R165). -/
def State.receiving (s : State) (p : Port) : Bool :=
  s.active && !s.ports[p].rstLow && s.ports[p].rx == .command

/-- A length byte over 24: TRAILING at once, no response, one frame error (R165). -/
def State.overlong (s : State) (p : Port) : State :=
  s.updPort p fun c => { c with rx := .trailing, frameErrors := satInc c.frameErrors }

end Sys2Proof.Machine
end

