-- ==== Sys2Proof/Machine/Flags.lean ====
section
/-! DEFINITION. The summary flags as a byte, the evaluation of CAPTURE, and what the board sees on PnATTN, PnSDO and the
output pins (R108, R138, R161, R162, R164, R165). -/

namespace Sys2Proof.Machine

/-- The three summary flags as bits 0 NOTICE, 1 CAPTURE, 2 LOSS (09, head of the chapter). -/
def Client.flagBits (c : Client) : BitVec 3 :=
  BitVec.ofNat 3 (bit c.notice + 2 * bit c.capture + 4 * bit c.loss)

/-- The flags as a payload byte. -/
def Client.flagByte (c : Client) : Byte := (c.flagBits).setWidth 8

/-- PnATTN is asserted: a flag is set whose bit is set in the mask (R162). -/
def Client.wantsAttention (c : Client) : Bool := c.flagBits &&& c.mask != 0

/-- The level of PnATTN: not driven without the main supply, high while the part is in device reset, otherwise low exactly
while attention is asserted (R162). -/
def State.attn (s : State) (p : Port) : Option Bool :=
  if s.vddm then some (if s.active then !s.ports[p].wantsAttention else true) else none

/-- What PnSDO carries, byte by byte: not driven, ones in every byte, or the bytes of the response frame. -/
inductive Sdo where
  | notDriven
  | ones
  | frame (bs : List Byte)
deriving DecidableEq, Repr

/-- PnSDO (R164, R165): driven only while PnCS is low, with the response in RESPONSE and ones at every other time. -/
def State.sdo (s : State) (p : Port) : Sdo :=
  if s.vddm && s.ports[p].csLow then
    if s.active && !s.ports[p].rstLow && s.ports[p].rx == .response then .frame s.ports[p].response else .ones
  else .notDriven

/-- The level of an output pin: not driven without the main supply, 0 while the part is in device reset, the Line Unit's
pin otherwise (R106). -/
def State.pinOut (s : State) (l : Line) : Option Bool :=
  if s.vddm then some (s.active && s.lines[l].pin) else none

/-- The subscription mask holds the input (R140). -/
def inMask (mask : BitVec 8) (i : Input) : Bool := mask.getLsbD i.val

/-- The records at or after a cursor, oldest first: as many of the newest as next Seq is ahead of the cursor, modulo 2^32
(R133, R139). -/
def State.unread (s : State) (cursor : Seq) : List CaptureRecord :=
  s.log.drop (s.log.length - (s.nextSeq - cursor).toNat)

/-- Re-evaluate the CAPTURE flag of a port: set when a record at or after its cursor is of a subscribed input, cleared
otherwise (R138). -/
def State.evaluateCapture (s : State) (p : Port) : State :=
  s.updPort p fun c =>
    { c with capture := (s.unread c.cursor).any fun r => inMask c.subscription r.input }

end Sys2Proof.Machine
end

