-- ==== Sys2Proof/Machine/Calibration.lean ====
section
/-! DEFINITION. The Calibration Engine: its ticks, trials and steps, the end of a run and its abort (R143 to R154). -/

namespace Sys2Proof.Machine

/-- The engine runs with input i as its loop input, so i is diverted (R141). -/
def State.diverted (s : State) (i : Input) : Bool :=
  match s.calRun with
  | some c => c.input == i
  | none => false

/-- The engine runs on line l (R143). -/
def State.calibratesLine (s : State) (l : Line) : Bool :=
  match s.calRun with
  | some c => c.line == l
  | none => false

/-- The step of a run: the engine count divided by 4,096 (R143). -/
def CalRun.step (c : CalRun) : Nat := c.count / 4096

/-- The position within the step (R146). -/
def CalRun.position (c : CalRun) : Nat := c.count % 4096

/-- Discard the candidate of an input, as at the beginning and end of a diversion (R141). -/
def State.discardCandidate (s : State) (i : Input) : State := s.updInput i fun ch => { ch with candidate := none }

/-- The lowest step whose bit is set in a pass mask (R148). -/
def lowestStep (m : BitVec 16) : Option Phase := (List.finRange 16).find? fun k => m.getLsbD k.val

/-- The highest step whose bit is set in a pass mask (R148). -/
def highestStep (m : BitVec 16) : Option Phase := (List.finRange 16).reverse.find? fun k => m.getLsbD k.val

/-- The result of a completed run and the fine delay it leaves, from the pass mask and the saved fine delay (R149). -/
def judgeMask (m : BitVec 16) (saved : Phase) : CalOutcome × Phase :=
  match lowestStep m, highestStep m with
  | some lo, some hi =>
    if (List.finRange 16).all fun k => !(lo ≤ k && k ≤ hi) || m.getLsbD k.val then
      (.pass, Fin.ofNat 16 ((lo.val + hi.val) / 2))
    else (.gap, saved)
  | _, _ => (.nonePass, saved)

/-- The code of a result (R149, R153). -/
def outcomeCode : CalOutcome → Nat
  | .none => 0
  | .pass => 1
  | .nonePass => 2
  | .gap => 3
  | .aborted => 4

/-- The code of a reason; 0 for none (R150, R153). -/
def reasonCode : Option AbortReason → Nat
  | none => 0
  | some .action => 1
  | some .hold => 2
  | some .release => 3
  | some .portReset => 4

/-- A step number as a byte, 0xFF when absent (R152). -/
def stepNumber : Option Phase → Nat
  | some k => k.val
  | none => 0xFF

/-- The Detail of CAL_DONE: result, reason, lower, upper (R152). -/
def calDetail (r : CalResult) : Nat :=
  outcomeCode r.outcome * 2 ^ 20 + reasonCode r.reason * 2 ^ 16 + stepNumber r.lower * 2 ^ 8 + stepNumber r.upper

/-- The result record that a run writes when it ends or is aborted (R148, R150). -/
def CalRun.record (c : CalRun) (outcome : CalOutcome) (reason : Option AbortReason) : CalResult :=
  { outcome := outcome, reason := reason, passMask := c.passMask, lower := lowestStep c.passMask,
    upper := highestStep c.passMask, input := some c.input }

/-- What the end and the abort of a run share: the line gets its fine delay, returns to STEADY at its idle level, the
diversion ends, the record is written and the engine becomes idle (R148 steps 2 to 5 and 7, R150 steps 2 to 5 and 7). -/
def State.finishRun (s : State) (c : CalRun) (delay : Phase) (record : CalResult) : State :=
  let s := s.updLine c.line fun ln => { ln with fineDelay := delay, level := ln.idle, activity := .steady }
  let s := s.discardCandidate c.input
  { s with results := upd s.results c.line fun _ => record, calRun := none }

/-- Abort a running calibration; nothing happens while the engine is idle (R150). No notice is made for PORT_RESET. -/
def State.abortCalibration (s : State) (reason : AbortReason) : State :=
  match s.calRun with
  | none => s
  | some c =>
    let record := c.record .aborted (some reason)
    let s' := s.finishRun c c.savedDelay record
    if reason = .portReset then s' else s'.offer c.requester (plainNotice .calDone s.time (calDetail record))

/-- An engine tick: engine tick 0 leaves the count at 0, every later one increases it (R146). -/
def CalRun.tick (c : CalRun) : CalRun :=
  if c.begun then { c with count := c.count + 1 } else { c with begun := true }

/-- The steps of the engine that fall on an engine tick (R146, R147, R148). -/
def CalRun.due (c : CalRun) : List Event :=
  if c.position = 0 then [.calStepStart]
  else if c.position % 1024 = 256 then [.calLeadingEdge]
  else if c.position % 1024 = 258 then [.calTrialJudged]
  else if c.position % 1024 = 768 then [.calTrailingEdge]
  else if c.position = 4095 then
    if c.step = 15 then [.calStepJudged, .calRunEnd] else [.calStepJudged]
  else []

/-- At position 0 of step s the line's fine delay becomes s (R146). -/
def State.calStepStart (s : State) : State :=
  match s.calRun with
  | some c => s.updLine c.line fun ln => { ln with fineDelay := Fin.ofNat 16 c.step }
  | none => s

/-- The leading edge of a trial: the active level (R146). -/
def State.calLeadingEdge (s : State) : State :=
  match s.calRun with
  | some c => s.updLine c.line fun ln => { ln with level := !ln.idle }
  | none => s

/-- The trailing edge of a trial: the idle level (R146). -/
def State.calTrailingEdge (s : State) : State :=
  match s.calRun with
  | some c => s.updLine c.line fun ln => { ln with level := ln.idle }
  | none => s

/-- A trial is judged two ticks after its leading edge: it passes when the last two samples of the loop input differ
(R147, log 14). -/
def State.calTrialJudged (s : State) : State :=
  match s.calRun with
  | some c =>
    let ch := s.inputs[c.input]
    { s with calRun := some { c with
        trials := upd c.trials (Fin.ofNat 4 (c.position / 1024)) fun _ => some (ch.prevSample != ch.sample) } }
  | none => s

/-- A step is judged: its bit is set when all four trials passed, and the outcomes are cleared (R147). -/
def State.calStepJudged (s : State) : State :=
  match s.calRun with
  | some c =>
    let passed := c.trials.toList.all (· == some true)
    { s with calRun := some { c with
        passMask := if passed then c.passMask ||| BitVec.ofNat 16 (2 ^ c.step) else c.passMask
        trials := Vector.replicate 4 none } }
  | none => s

/-- The end of a run: the result from the mask, the fine delay, the record and CAL_DONE with the time value of the tick
(R148, R149). -/
def State.calRunEnd (s : State) : State :=
  match s.calRun with
  | some c =>
    let (outcome, delay) := judgeMask c.passMask c.savedDelay
    let record := c.record outcome none
    (s.finishRun c delay record).offer c.requester (plainNotice .calDone s.tickTime (calDetail record))
  | none => s

end Sys2Proof.Machine
end

