-- ==== Sys2Proof/Machine/Lines.lean ====
section
/-! DEFINITION. The Line Units: actions, pulse and wave timers, the placing of edges on the pins (R106 to R118). -/

namespace Sys2Proof.Machine

/-- A timer step of line l. -/
def isTimerStep (l : Line) : Event → Bool
  | .pulseEnd k => k == l
  | .waveHighEnd k => k == l
  | .waveCycleEnd k => k == l
  | .waveCompletion k => k == l
  | _ => false

/-- Stop a pulse or wave of line l, discarding its timer; the level stays (R109 step 2). A timer step of the line that is
due and not yet taken is discarded with the timer (R118, action taken first). -/
def State.cancelTimer (s : State) (l : Line) : State :=
  (s.updLine l fun ln =>
    { ln with activity := match ln.activity with
                          | .calibrating => .calibrating
                          | _ => .steady }).dropWork (isTimerStep l)

/-- The cycles of a wave as a count: 0 is UNLIMITED (R113, R119). -/
def cyclesOf (n : Nat) : Count := if n = 0 then .unlimited else .finite n

/-- Step 3 of a delivered action: the level and the activity it states (R110, R111, R113, R116). -/
def LineUnit.act (ln : LineUnit) : LineAction → LineUnit
  | .set => { ln with level := true, activity := .steady }
  | .clear => { ln with level := false, activity := .steady }
  | .toggle => { ln with level := !ln.level, activity := .steady }
  | .pulse width => { ln with level := !ln.idle, activity := .pulsing width }
  | .waveStart =>
    { ln with
      level := !ln.idle
      activity := .waving { period := ln.wavePeriod, high := ln.waveHigh, idle := ln.idle,
                            left := cyclesOf ln.waveCycles, position := 0 } }
  | .waveStop => { ln with level := ln.idle, activity := .steady }

/-- Abort the calibration run on a line, if there is one (R48, R109). -/
def State.abortOn (s : State) (l : Line) (reason : AbortReason) : State :=
  if s.calibratesLine l then s.abortCalibration reason else s

/-- An action delivered to a line: a calibration run on it is aborted, a pulse or wave is cancelled, then the action acts
(R109). -/
def State.deliver (s : State) (l : Line) (a : LineAction) : State :=
  ((s.abortOn l .action).cancelTimer l).updLine l fun ln => ln.act a

/-- The timer step of a line that changes its level, when the next prescaler tick brings it (R112, R114). -/
def LineUnit.dueStep (ln : LineUnit) (l : Line) : Option Event :=
  match ln.activity with
  | .pulsing r => if r ≤ 1 then some (.pulseEnd l) else none
  | .waving w =>
    if w.position + 1 = w.high then some (.waveHighEnd l)
    else if w.period ≤ w.position + 1 then
      if w.left = .finite 1 then some (.waveCompletion l) else some (.waveCycleEnd l)
    else none
  | _ => none

/-- A prescaler tick of the timers where no level changes: the remainder falls or the position rises by one (R112, R114).
A tick that brings a level change leaves the timer to its own step. -/
def LineUnit.timerTick (ln : LineUnit) (l : Line) : LineUnit :=
  if ln.dueStep l = none then
    match ln.activity with
    | .pulsing r => { ln with activity := .pulsing (r - 1) }
    | .waving w => { ln with activity := .waving { w with position := w.position + 1 } }
    | _ => ln
  else ln

/-- The pulse remainder reaches 0: the idle level standing at that moment, STEADY (R112). -/
def State.pulseEnd (s : State) (l : Line) : State :=
  s.updLine l fun ln =>
    match ln.activity with
    | .pulsing _ => { ln with level := ln.idle, activity := .steady }
    | _ => ln

/-- The position reaches the high time: the idle level of the copy (R114). -/
def State.waveHighEnd (s : State) (l : Line) : State :=
  s.updLine l fun ln =>
    match ln.activity with
    | .waving w => { ln with level := w.idle, activity := .waving { w with position := w.high } }
    | _ => ln

/-- One cycle fewer; UNLIMITED stays (R114). -/
def Count.less (n : Nat) : Count → Count
  | .unlimited => .unlimited
  | .finite k => .finite (k - n)

/-- The position reaches the period with cycles left: the next cycle begins at the active level of the copy (R114). -/
def State.waveCycleEnd (s : State) (l : Line) : State :=
  s.updLine l fun ln =>
    match ln.activity with
    | .waving w =>
      { ln with level := !w.idle, activity := .waving { w with left := Count.less 1 w.left, position := 0 } }
    | _ => ln

/-- The last cycle ends: the configured idle level, STEADY, and WAVE_DONE to the holder if the setting is on (R115). -/
def State.waveCompletion (s : State) (l : Line) : State :=
  match s.lines[l].activity with
  | .waving _ =>
    let s' := s.updLine l fun ln => { ln with level := ln.idle, activity := .steady }
    match s.lines[l].waveDone, s.claims[lineResource l].holder with
    | true, some p => s'.offer p (plainNotice .waveDone s.tickTime l.val)
    | _, _ => s'
  | _ => s

/-- At a prescaler tick boundary each pin takes the current level of its line; a change makes one edge, placed by the fine
delay standing at the boundary (R108). -/
def LineUnit.placePin (ln : LineUnit) : LineUnit :=
  { ln with pin := ln.level, pinEdge := if ln.pin = ln.level then none else some ln.fineDelay }

end Sys2Proof.Machine
end

