-- ==== Sys2Proof/Machine/Table.lean ====
section
/-! DEFINITION. The Action Table: slots, handles, the due order, and the firing check with its occurrences
(R57 to R66, R82, R85 to R104). -/

namespace Sys2Proof.Machine

/-! ### Slots and handles -/

/-- The entries a port owns (R57). -/
def State.entryCount (s : State) (p : Port) : Nat :=
  s.slots.toList.countP fun e => match e with
    | some e => e.owner == p
    | none => false

/-- The lowest-numbered empty slot (R58). -/
def State.freeSlot (s : State) : Option Slot := (List.finRange 64).find? fun k => s.slots[k].isNone

/-- The handle of the entry in a slot (R60). -/
def State.handleOf (s : State) (k : Slot) : Handle := { gen := s.gens[k], slot := k }

/-- The handle's two bytes (11.7.2). -/
def handleBytes (h : Handle) : List Byte := [h.gen, BitVec.ofNat 8 h.slot.val]

/-- The entry of port p that generation g and slot k name (R60). -/
def State.named (s : State) (p : Port) (g : Nat) (k : Slot) : Option Entry :=
  match s.slots[k] with
  | some e => if s.gens[k].toNat = g ∧ e.owner = p then some e else none
  | none => none

/-- The Due of the entry in a slot, as a number; 0 for a slot without one. -/
def State.dueAt (s : State) (k : Slot) : Nat :=
  match s.slots[k] with
  | some e => (e.due.getD 0).toNat
  | none => 0

/-- An entry leaves the table: out of the due order, the slot empty, its generation incremented (R82). -/
def State.removeEntry (s : State) (k : Slot) : State :=
  { s with
    slots := upd s.slots k fun _ => none
    gens := upd s.gens k fun g => g + 1
    dueOrder := s.dueOrder.filter fun j => j != k }

/-- Insert a slot behind every slot whose Due is not later than its own (R65). -/
def insertDue (dueOf : Slot → Nat) (k : Slot) (due : Nat) : List Slot → List Slot
  | [] => [k]
  | j :: rest => if dueOf j ≤ due then j :: insertDue dueOf k due rest else k :: j :: rest

/-- The entry of a slot is made PENDING with a Due, anew if it was PENDING (R65). -/
def State.makePending (s : State) (k : Slot) (e : Entry) (due : TimeValue) : State :=
  let order := s.dueOrder.filter fun j => j != k
  { s with
    slots := upd s.slots k fun _ => some { e with due := some due }
    dueOrder := insertDue s.dueAt k due.toNat order }

/-- The entry of a slot is ARMED with the given Remaining, outside the due order (R64, R99). -/
def State.makeArmed (s : State) (k : Slot) (e : Entry) (remaining : Count) : State :=
  { s with
    slots := upd s.slots k fun _ => some { e with due := none, remaining := remaining }
    dueOrder := s.dueOrder.filter fun j => j != k }

/-! ### One occurrence -/

/-- The lateness of a Due at a check time, counted across the wrap when the check is that of a wrap (R88, R104). -/
def lateness (wrapped : Bool) (due now : TimeValue) : Nat :=
  if wrapped then 2 ^ 52 + now.toNat - due.toNat else now.toNat - due.toNat

/-- How an occurrence ends: the number of occurrences consumed, the number of those skipped, and the next Due with the
Remaining left, absent when the occurrence is final. -/
structure Settlement where
  consumed : Nat
  skipped : Nat
  next : Option (TimeValue × Count)
deriving DecidableEq, Repr

/-- The smallest n for which D + n × P is not overdue, n × P at least L − 1 (R97); 1 for an on-time occurrence. -/
def catchUp (late period : Nat) : Nat :=
  if late ≤ 1 then 1 else (late - 1 + (period - 1)) / period

/-- Settle Remaining and the next Due of an occurrence of entry e with Due d (R96 to R98). At a wrap the occurrence is
final (R104, log 12), and so is one whose next Due would pass the end of the time range (R96). -/
def settleSeries (wrapped : Bool) (e : Entry) (d : TimeValue) (late : Nat) : Settlement :=
  match e.series with
  | none => { consumed := 1, skipped := 0, next := none }
  | some r =>
    let n := catchUp late r.period
    let due := d.toNat + n * r.period
    let next := if wrapped ∨ 2 ^ 52 ≤ due then none else some (BitVec.ofNat 52 due, Count.less n e.remaining)
    match e.remaining with
    | .unlimited => { consumed := n, skipped := n - 1, next := next }
    | .finite k =>
      if k ≤ n then { consumed := k, skipped := k - 1, next := none }
      else { consumed := n, skipped := n - 1, next := next }

/-- What an occurrence turns out to be (R88). -/
inductive Verdict where
  | onTime
  | fireLate
  | drop
deriving DecidableEq, Repr

/-- On time with lateness 0 or 1; otherwise by the Late policy (R88). -/
def verdict (late : Nat) (policy : LatePolicy) : Verdict :=
  if late ≤ 1 then .onTime
  else match policy with
    | .fire => .fireLate
    | .drop => .drop

/-- Remaining after the occurrence as its notice reports it: 0 for the final occurrence, all ones for UNLIMITED
(R94, log 11). -/
def remainingCode (width : Nat) (st : Settlement) : Nat :=
  match st.next with
  | none => 0
  | some (_, .unlimited) => 2 ^ width - 1
  | some (_, .finite k) => k

/-- The Detail of the notice of an occurrence (R94). -/
def firingDetail (v : Verdict) (st : Settlement) : Nat :=
  match v with
  | .onTime => remainingCode 24 st
  | .fireLate => min st.skipped 255 * 2 ^ 16 + remainingCode 16 st
  | .drop => min st.consumed 16777215

/-- The Kind of the notice of an occurrence (R88). -/
def firingKind : Verdict → NoticeKind
  | .onTime => .fired
  | .fireLate => .firedLate
  | .drop => .dropped

/-- The Notify setting asks for a notice (R93). -/
def Notify.asks (n : Notify) (final : Bool) : Bool :=
  match n with
  | .never => false
  | .last => final
  | .all => true

/-- The final occurrence: back to ARMED with the Initial count, or 1 without Repeat, for an armed form with Rearm; out of
the table for every other entry (R99). -/
def State.finishEntry (s : State) (k : Slot) (e : Entry) : State :=
  match e.form with
  | .armed _ _ true =>
    s.makeArmed k e (match e.series with
      | some r => r.initial
      | none => .finite 1)
  | _ => s.removeEntry k

/-- The entry of a slot that is PENDING, with its Due (R64). -/
def State.pendingIn (s : State) (k : Slot) : Option (Entry × TimeValue) :=
  match s.slots[k] with
  | some e => e.due.map fun d => (e, d)
  | none => none

/-- Step 1 of an occurrence: the action is delivered, unless the occurrence is dropped or the entry is a MARK
(R89 to R92). -/
def State.deliverOccurrence (s : State) (v : Verdict) (j : Job) : State :=
  match v, j with
  | .drop, _ => s
  | _, .mark => s
  | _, .act l a => s.deliver l a

/-- Step 2 of an occurrence: the notice to the owner, when Notify asks for one (R93, R94). -/
def State.noticeOccurrence (s : State) (e : Entry) (h : Handle) (v : Verdict) (st : Settlement) (now : TimeValue) :
    State :=
  if e.notify.asks st.next.isNone then
    s.offer e.owner { kind := firingKind v, handle := some h, tag := some e.tag, time := now,
                      detail := BitVec.ofNat 24 (firingDetail v st) }
  else s

/-- Step 3 of an occurrence: re-inserted with the next Due and the Remaining left, or finished (R96, R99). -/
def State.settleEntry (s : State) (k : Slot) (e : Entry) (next : Option (TimeValue × Count)) : State :=
  match next with
  | some (due, remaining) => s.makePending k { e with remaining := remaining } due
  | none => s.finishEntry k e

/-- One occurrence of the entry in slot k at check time now (R89 to R91): the action is delivered unless the occurrence is
dropped, the notice is made when Notify asks for one, then the entry is re-inserted, rearmed or removed. -/
def State.occurrence (s : State) (wrapped : Bool) (now : TimeValue) (k : Slot) : State :=
  match s.pendingIn k with
  | none => { s with dueOrder := s.dueOrder.filter fun j => j != k }
  | some (e, d) =>
    let late := lateness wrapped d now
    let v := verdict late e.late
    let st := settleSeries wrapped e d late
    ((s.deliverOccurrence v e.job).noticeOccurrence e (s.handleOf k) v st now).settleEntry k e st.next

/-! ### The firing check -/

/-- Take entries from the head of the due order while their Due is not later than the check time (R86). Each entry is
taken at most twice by one check, so fuel of twice the length of the due order is enough. -/
def fireLoop : Nat → TimeValue → State → State
  | 0, _, s => s
  | fuel + 1, now, s =>
    match s.dueOrder with
    | [] => s
    | k :: _ => if now.toNat < s.dueAt k then s else fireLoop fuel now (s.occurrence false now k)

/-- At a wrap every entry of the due order is taken, in due order, with its lateness counted across the wrap (R104). -/
def State.takeWrapped (s : State) (now : TimeValue) : State := s.dueOrder.foldl (fun s k => s.occurrence true now k) s

/-- Take every entry whose Due is not later than the check time (R86). -/
def State.takeDue (s : State) (now : TimeValue) : State := fireLoop (2 * s.dueOrder.length) now s

/-- A firing check at check time now (R85, R86), that of a wrap or an ordinary one (R104). -/
def State.fireCheck (s : State) (wrapped : Bool) (now : TimeValue) : State :=
  (if wrapped then s.takeWrapped now else s).takeDue now

end Sys2Proof.Machine
end

