-- ==== Sys2Proof/Machine/Capture.lean ====
section
/-! DEFINITION. The Capture Unit: samples, filters, accepted edges, the Capture Log and its readers, and the triggers it
hands to the Action Table (R78 to R80, R124 to R141). -/

namespace Sys2Proof.Machine

/-- The filter length in samples (R128). -/
def filterSamples : FilterLength → Nat
  | .one => 1
  | .two => 2
  | .four => 4
  | .eight => 8

/-- What the phase detector records for a capture interval, from the phases of the raw changes in it: the phase of the last
one, whatever bounces came before (R124). -/
def detectPhase (changes : List Phase) : Option Phase := changes.getLast?

/-- One capture interval of an input: the phase detector records its last change, and the sample at its end is kept beside
the one before (R124). -/
def Channel.observe (ch : Channel) (level : Bool) (changes : List Phase) : Channel :=
  { ch with prevSample := ch.sample, sample := level, lastChange := detectPhase changes }

/-- One sample of an input (R125): the first sample after a reset sets the accepted level; a sample at the accepted level
discards the candidate; a sample opposite to it begins or lengthens the candidate, and the sample that completes the
filter length leaves the stamp of the first one for the acceptance step. A candidate that begins at a sample equal to the
one before (after a discard) takes the recorded phase as well, which is the model's choice (log 28). -/
def Channel.filterSample (ch : Channel) (level : Bool) (stamp : Stamp) : Channel :=
  if ch.fresh then { ch with accepted := level, fresh := false, candidate := none }
  else if level = ch.accepted then { ch with candidate := none }
  else
    let c := match ch.candidate with
      | some c => { c with length := c.length + 1 }
      | none => { length := 1, stamp := stamp }
    if filterSamples ch.filter ≤ c.length then { ch with candidate := none, ready := some c.stamp }
    else { ch with candidate := some c }

/-- The edge select names the direction of an edge (R127). -/
def EdgeSelect.selects : EdgeSelect → Bool → Bool
  | .none, _ => false
  | .rising, up => up
  | .falling, up => !up
  | .both, _ => true

/-- Overwrite the oldest record of a full log: the cursors that stood on it move on, and the loss is counted for each of
those ports that subscribes to its input (R134). -/
def State.overwriteOldest (s : State) : State :=
  match s.log with
  | [] => s
  | r :: rest =>
    { s with
      log := rest
      ports := each s.ports fun _ c =>
        if c.cursor = r.seq then
          if inMask c.subscription r.input then
            { c with cursor := c.cursor + 1, lostCaptures := satInc c.lostCaptures, loss := true }
          else { c with cursor := c.cursor + 1 }
        else c }

/-- Steps 1 to 5 of an append: overwriting, the record with the next Seq and the marker, the counter, and the CAPTURE flag
of every subscriber (R135). -/
def State.appendRecord (s : State) (i : Input) (rising : Bool) (stamp : Stamp) : State :=
  let s := if Config.logCapacity ≤ s.log.length then s.overwriteOldest else s
  let record : CaptureRecord :=
    { seq := s.nextSeq, input := i, rising := rising, time := stamp.time, phase := stamp.phase,
      notRunning := stamp.notRunning, refLocked := stamp.refLocked, stepped := s.marker }
  let s := { s with log := s.log ++ [record], nextSeq := s.nextSeq + 1, marker := false }
  let s := s.updInput i fun ch => { ch with counter := ch.counter + 1 }
  { s with ports := each s.ports fun _ c => if inMask c.subscription i then { c with capture := true } else c }

/-- The slot holds an ARMED entry whose Trigger input is i, with this Offset (R78 step 1). -/
def State.armedOn (s : State) (i : Input) (k : Slot) : Option (Entry × BitVec 24) :=
  match s.slots[k] with
  | some e =>
    match e.due, e.form with
    | none, .armed trigger offset _ => if trigger = i then some (e, offset) else none
    | _, _ => none
  | none => none

/-- The Due that a trigger gives: the record's Time plus the Offset, wrapping (R78 step 2). -/
def triggeredDue (time : TimeValue) (offset : BitVec 24) : TimeValue := time + offset.setWidth 52

/-- One slot's part of a trigger (R78 step 2). -/
def State.triggerSlot (s : State) (i : Input) (time : TimeValue) (k : Slot) : State :=
  match s.armedOn i k with
  | some (e, offset) => s.makePending k e (triggeredDue time offset)
  | none => s

/-- Every ARMED entry on the input becomes PENDING, in ascending slot order (R78 step 2). -/
def State.triggerAll (s : State) (i : Input) (time : TimeValue) : State :=
  (List.finRange 64).foldl (fun s k => s.triggerSlot i time k) s

/-- One of the Due values that a trigger gives is not later than the time value (R78 step 3). -/
def State.triggerReached (s : State) (i : Input) (time : TimeValue) : Bool :=
  (List.finRange 64).any fun k =>
    match s.armedOn i k with
    | some (_, offset) => decide ((triggeredDue time offset).toNat ≤ s.time.toNat)
    | none => false

/-- A record's trigger: every ARMED entry on the input becomes PENDING, in ascending slot order, and a firing check follows
when the timebase is RUNNING and one of the new Due values is not later than the time value (R78). -/
def State.trigger (s : State) (i : Input) (time : TimeValue) : State :=
  if s.running && s.triggerReached i time then (s.triggerAll i time).fireCheck false s.time else s.triggerAll i time

/-- An edge is accepted: the accepted level is reversed; a selected edge, on an input that is not diverted, appends its
record, is counted, and triggers (R125, R127, R135, R141). -/
def State.edgeAccepted (s : State) (i : Input) : State :=
  match s.inputs[i].ready with
  | none => s
  | some stamp =>
    let rising := !s.inputs[i].accepted
    let selected := s.inputs[i].edgeSelect.selects rising && !s.diverted i
    let s := s.updInput i fun ch => { ch with accepted := rising, ready := none }
    if selected then (s.appendRecord i rising stamp).trigger i stamp.time else s

/-- Examine records, oldest first, returning those of subscribed inputs, until `max` are returned or none is left: the
records returned and the number examined (R139). -/
def examine (mask : BitVec 8) : Nat → List CaptureRecord → List CaptureRecord × Nat
  | _, [] => ([], 0)
  | 0, _ :: _ => ([], 0)
  | max + 1, r :: rest =>
    if inMask mask r.input then
      let (out, n) := examine mask max rest
      (r :: out, n + 1)
    else
      let (out, n) := examine mask (max + 1) rest
      (out, n + 1)

/-- The thirteen bytes of a record (11.7.4). -/
def recordBytes (r : CaptureRecord) : List Byte :=
  bytes 4 r.seq.toNat
    ++ [BitVec.ofNat 8 (r.input.val + 8 * bit r.rising + 16 * bit r.notRunning + 32 * bit r.refLocked
          + 64 * bit r.stepped)]
    ++ timeBytes r.time ++ [BitVec.ofNat 8 r.phase.val]

end Sys2Proof.Machine
end

