-- ==== Sys2Proof/Machine/Reference.lean ====
section
/-! DEFINITION. The Reference Discipline Unit: offsets, realignment, strays, crossings and misses, window ends and
auto-trim (R19, R23 to R35). -/

namespace Sys2Proof.Machine

/-- The offset of an edge time from the nearest seconds rollover (R24). -/
def offsetOf (edge : TimeValue) : Int :=
  if fraction edge < 524288 then (fraction edge : Int) else (fraction edge : Int) - 1048576

/-- A signed sum that saturates at the limits of 32 bits (R27). -/
def satSum (a b : Int) : Int := max (-2147483648) (min 2147483647 (a + b))

/-- The RDU enters OFF or SEARCHING: the crossing due and the credit are cleared (R25). -/
def Rdu.enter (r : Rdu) (new : RefState) : Rdu := { r with state := new, crossingDue := false, credit := false }

/-- The TBU subtracts the correction from the time value, and a correction other than 0 sets the discontinuity marker
(R19, R29). -/
def State.realign (s : State) (c : Int) : State :=
  { s with time := s.time - BitVec.ofInt 52 c, marker := s.marker || decide (c ≠ 0) }

/-- A forward realignment makes a firing check at the corrected value (R29, R103); one whose corrected value has wrapped
makes the check of a wrap (R104). `before` is the time value before the realignment. -/
def State.checkForward (s : State) (c : Int) (before : TimeValue) : State :=
  if c < 0 then s.fireCheck (decide (s.time.toNat < before.toNat)) s.time else s

/-- What every realigning edge does to the record: counted, the misses 0, the credit and the crossing due set
(R26 to R28, R31). -/
def Rdu.realigned (r : Rdu) : Rdu :=
  { r with realignments := satInc r.realignments, misses := 0, credit := true, crossingDue := true }

/-- The edge is outside the window in force: a stray (R26 to R28). -/
def Rdu.stray (r : Rdu) : Rdu := { r with strays := satInc r.strays }

/-- Handle the detected REFP edge: measured, then realigning or stray as the reference state has it; OFF ignores it
(R23 to R29). -/
def State.refpEdge (s : State) : State :=
  let off := offsetOf s.rdu.edgeTime
  let before := s.time
  match s.rdu.state with
  | .off => s
  | .searching =>
    let s := { s with rdu := { s.rdu with lastOffset := off } }
    if off.natAbs ≤ s.rdu.wide then
      let s := s.realign off
      let s := { s with rdu := { s.rdu.realigned with state := .locked } }
      ((s.refStateChanged .locked s.time).timeChanged .acquired s.time).checkForward off before
    else { s with rdu := s.rdu.stray }
  | .locked =>
    let s := { s with rdu := { s.rdu with lastOffset := off } }
    if off.natAbs ≤ s.rdu.narrow then
      let s := s.realign off
      let s := { s with rdu := { s.rdu.realigned with sum := satSum s.rdu.sum off } }
      s.checkForward off before
    else { s with rdu := s.rdu.stray }
  | .holdover =>
    let s := { s with rdu := { s.rdu with lastOffset := off } }
    if off.natAbs ≤ s.rdu.narrow then
      let s := s.realign off
      let s := { s with rdu := { s.rdu.realigned with sum := satSum s.rdu.sum off, state := .locked } }
      (s.refStateChanged .locked s.time).checkForward off before
    else { s with rdu := s.rdu.stray }

/-- A crossing: the crossing due is cleared, and in LOCKED or HOLDOVER the credit is consumed or the rollover is a miss
(R31, R32). -/
def State.crossing (s : State) : State :=
  let r := { s.rdu with crossingDue := false }
  match r.state with
  | .off => { s with rdu := r }
  | .searching => { s with rdu := r }
  | .locked =>
    if r.credit then { s with rdu := { r with credit := false } }
    else
      State.refStateChanged { s with rdu := { r with state := .holdover, misses := r.misses + 1 } } .holdover s.tickTime
  | .holdover =>
    if r.credit then { s with rdu := { r with credit := false } }
    else if r.misses + 1 < 4 then { s with rdu := { r with misses := r.misses + 1 } }
    else
      State.refStateChanged { s with rdu := { r.enter .searching with misses := 4 } } .searching s.tickTime

/-- Auto-trim's clamp (R35). -/
def clampTrim (x : Int) : Int := max (-1024) (min 1023 x)

/-- A window end: the sum is published and becomes 0, and auto-trim writes the trim setting while LOCKED (R34, R35). -/
def State.windowEnd (s : State) : State :=
  let published := s.rdu.sum
  let s := { s with rdu := { s.rdu with lastSum := published, sum := 0 } }
  if s.rdu.autoTrim && s.rdu.state == .locked then { s with trim := clampTrim (s.trim - published) } else s

end Sys2Proof.Machine
end

