-- ==== Sys2Proof/Machine/Claims.lean ====
section
/-! DEFINITION. The Claim Table: the release cascades, the grant, and the port reset and device reset of the whole part
(R40 to R56, R83, R84, R122, R123, R142, R154, R163, R172, R173). -/

namespace Sys2Proof.Machine

/-- The reason of an abort made by a release of port p: PORT_RESET when the release is made by the port reset of the
requester, RELEASE otherwise (R48, R50). -/
def releaseReason (byReset : Bool) (p : Port) (s : State) : AbortReason :=
  match s.calRun with
  | some c => if byReset ∧ c.requester = p then .portReset else .release
  | none => .release

/-- The entry is owned by port p and its Line is l (R49). -/
def Entry.isOn (e : Entry) (p : Port) (l : Line) : Bool :=
  e.owner == p && match e.job with
    | .act k _ => k == l
    | .mark => false

/-- The slots, ascending, whose entry satisfies f. -/
def State.slotsWhere (s : State) (f : Entry → Bool) : List Slot :=
  (List.finRange 64).filter fun k => match s.slots[k] with
    | some e => f e
    | none => false

/-- Remove the entries of a list of slots (R82). -/
def State.removeEntries (s : State) (ks : List Slot) : State := ks.foldl State.removeEntry s

/-- Remove every entry that satisfies f (R49, R83). -/
def State.removeWhere (s : State) (f : Entry → Bool) : State := s.removeEntries (s.slotsWhere f)

/-- The release cascade of an output line (R48, R122): abort, stop the timer, go to the idle level, remove the entries. -/
def State.cascadeLine (s : State) (byReset : Bool) (p : Port) (l : Line) : State :=
  (((s.abortOn l (releaseReason byReset p s)).cancelTimer l).updLine l fun ln =>
    { ln with level := ln.idle, activity := .steady }).removeWhere fun e => e.isOn p l

/-- The release cascade of a capture input (R50). -/
def State.cascadeInput (s : State) (byReset : Bool) (p : Port) (i : Input) : State :=
  if s.diverted i then s.abortCalibration (releaseReason byReset p s) else s

/-- The release cascade of a resource; that of TIME makes no change (R48, R50, R51). -/
def State.cascade (s : State) (byReset : Bool) (p : Port) (r : Resource) : State :=
  if h : r.val < 8 then s.cascadeLine byReset p ⟨r.val, h⟩
  else if h : r.val < 16 then s.cascadeInput byReset p ⟨r.val - 8, by omega⟩
  else s

/-- The number of entries the cascade of a resource removes (R46). -/
def State.cascadeCount (s : State) (p : Port) (r : Resource) : Nat :=
  if h : r.val < 8 then (s.slotsWhere fun e => e.isOn p ⟨r.val, h⟩).length else 0

/-- The grant to the first waiter with its GRANTED notice, or the resource becomes free (R46, R47). -/
def State.grant (s : State) (r : Resource) : State :=
  match s.claims[r].waiters with
  | [] => s.updClaim r fun _ => { holder := none, waiters := [] }
  | w :: rest =>
    (s.updClaim r fun _ => { holder := some w, waiters := rest }).offer w (plainNotice .granted s.time r.val)

/-- The holder gives a resource up: cascade, then grant (R46, R53). -/
def State.giveUp (s : State) (byReset : Bool) (p : Port) (r : Resource) : State :=
  (s.cascade byReset p r).grant r

/-- A port leaves the waiter list of a record (R46, R54). -/
def ClaimRecord.leave (c : ClaimRecord) (p : Port) : ClaimRecord :=
  { c with waiters := c.waiters.filter fun w => w != p }

/-- The port's own items after its port reset; its pins stay, and it stays in reset while PnRST is low (R172 steps 4 to 6). -/
def Client.portReset (c : Client) (nextSeq : Seq) : Client :=
  { Client.reset with csLow := c.csLow, rstLow := c.rstLow, inReset := c.rstLow, cursor := nextSeq }

/-- A resource is released by the port reset of port p, if p holds it (R53). -/
def State.releaseHeld (s : State) (p : Port) (r : Resource) : State :=
  if s.holds p r then s.giveUp true p r else s

/-- A port leaves every waiter list (R54). -/
def State.leaveLists (s : State) (p : Port) : State := { s with claims := each s.claims fun _ c => c.leave p }

/-- Step 1 of a port reset: every held resource is released, in ascending number, and the port leaves every waiter list
(R53, R54). -/
def State.releaseAll (s : State) (p : Port) : State :=
  ((List.finRange 17).foldl (fun s r => s.releaseHeld p r) s).leaveLists p

/-- Step 3 of a port reset: a run with the port as requester is aborted (R172). -/
def State.abortOwn (s : State) (p : Port) : State :=
  match s.calRun with
  | some c => if c.requester = p then s.abortCalibration .portReset else s
  | none => s

/-- Steps 4 to 6 of a port reset: the port's own items (R172). -/
def State.clearPort (s : State) (p : Port) : State := s.updPort p fun c => c.portReset s.nextSeq

/-- A port reset of port p (R172). -/
def State.portReset (s : State) (p : Port) : State :=
  ((((s.releaseAll p).removeWhere fun e => e.owner == p)).abortOwn p).clearPort p

/-- A device reset: every item of the main domain at its default; the retained domain, the pins and the supplies as they
are (R22, R39, R41, R84, R123, R142, R154, R163, R173). -/
def State.deviceReset (s : State) : State :=
  { State.reset with
    vddm := s.vddm, vddr := s.vddr, nrstLow := s.nrstLow, prescaler := s.prescaler, time := s.time
    timebase := s.timebase, position := s.position, trim := s.trim, windowTrim := s.windowTrim
    tickTime := s.tickTime
    ports := each s.ports fun _ c =>
      { Client.reset with csLow := c.csLow, rstLow := c.rstLow, inReset := c.rstLow }
    pending := s.pending }

/-- The retained domain at its values after a retained reset (R21). -/
def State.clearRetained (s : State) : State :=
  { s with prescaler := 0, time := 0, timebase := .unset, position := 0, trim := 0, windowTrim := 0 }

end Sys2Proof.Machine
end

