-- ==== Sys2Proof/Machine/Events.lean ====
section
/-! DEFINITION. The steps that are due: what each does, which must come before which, and taking all of them before any
other command (log 1). -/

namespace Sys2Proof.Machine

/-- The effect of one step that is due (95_what_each_step_holds.md; each step's rule stands with its operation). -/
def State.perform (s : State) : Event → State
  | .slewDone => s.timeChanged .slewDone s.tickTime
  | .windowEnd => s.windowEnd
  | .crossing => s.crossing
  | .pulseEnd l => s.pulseEnd l
  | .waveHighEnd l => s.waveHighEnd l
  | .waveCycleEnd l => s.waveCycleEnd l
  | .waveCompletion l => s.waveCompletion l
  | .calStepStart => s.calStepStart
  | .calLeadingEdge => s.calLeadingEdge
  | .calTrialJudged => s.calTrialJudged
  | .calTrailingEdge => s.calTrailingEdge
  | .calStepJudged => s.calStepJudged
  | .calRunEnd => s.calRunEnd
  | .edgeAccepted i => s.edgeAccepted i
  | .refpEdge => s.refpEdge
  | .portResetTaken p => s.portReset p

/-- Take a step if it is due: it is due no longer, and its effect happens. -/
def State.takeOne (s : State) (e : Event) : State :=
  if s.work.contains e then (s.dropWork fun d => d == e).perform e else s

/-- The steps that come before a step of the same tick: the crossing before the REFP edge (R31), lower inputs before
higher ones (R136), the judging of step 15 before the end of the run (R148). -/
def stepsBefore : Event → List Event
  | .refpEdge => [.crossing]
  | .edgeAccepted i => ((List.finRange 8).filter fun j => decide (j < i)).map Event.edgeAccepted
  | .calRunEnd => [.calStepJudged]
  | _ => []

/-- Step 15 has been judged and the end of the run is still due: both are the work of engine tick 65,535 (R148). -/
def State.runEnding (s : State) : Bool := s.work.contains .calRunEnd && !s.work.contains .calStepJudged

/-- End a run whose step 15 has been judged, so that no abort comes between the two (R151). -/
def State.endJudgedRun (s : State) : State := if s.runEnding then s.takeOne .calRunEnd else s

/-- A step of a tick that can abort a calibration run, by a firing check that it makes (R78, R103, R150). -/
def mayAbort : Event → Bool
  | .edgeAccepted _ => true
  | .refpEdge => true
  | _ => false

/-- The due steps that must come before a step are taken (R31, R136, R148, R151). -/
def State.prepare (s : State) (e : Event) : State :=
  (stepsBefore e).foldl State.takeOne (if mayAbort e then s.endJudgedRun else s)

/-- Take a step, after the due steps that come before it; a step that is not due does not happen and changes nothing
(log 2). -/
def State.takeEvent (s : State) (e : Event) : State :=
  if s.work.contains e then (s.prepare e).takeOne e else s

/-- Take every due step, in the order the tick left them (log 1). -/
def State.settle (s : State) : State := s.work.foldl State.takeOne s

/-- Take every due step but one. -/
def State.settleBut (s : State) (e : Event) : State := (s.work.filter fun d => d != e).foldl State.takeOne s

end Sys2Proof.Machine
end

