-- ==== Sys2Proof/Machine/Ticks.lean ====
section
/-! DEFINITION. The prescaler tick: the counting of the TBU, its advance, the timers, the samples, the engine tick, and
the steps they make due (R1 to R5, R12 to R17, R108, R112, R114, R124, R146). -/

namespace Sys2Proof.Machine

/-- Ten binary digits read in the opposite order (R14). -/
def bitReverse10 (j : Nat) : Nat := (List.range 10).foldl (fun r k => 2 * r + bit (j.testBit k)) 0

/-- The window trim in force at the coming counted tick: the trim setting at position 0 (R13). -/
def State.windowTrimNow (s : State) : Int := if s.position = 0 then s.trim else s.windowTrim

/-- Position p carries a trim adjustment under window trim w (R14). -/
def isTrimPosition (p : Nat) (w : Int) : Bool :=
  decide (p % 16384 = 0 ∧ bitReverse10 (p / 16384) < w.natAbs)

/-- Position p is a slew position (R17). -/
def isSlewPosition (p : Nat) : Bool := decide (p % 16 = 8)

/-- The coming counted tick carries a slew adjustment (R4, R17). -/
def State.slewActs (s : State) : Bool :=
  !isTrimPosition s.position.toNat s.windowTrimNow && isSlewPosition s.position.toNat && s.slew != 0

/-- The step of the coming counted tick (R4). -/
def State.tickStep (s : State) : Nat :=
  if isTrimPosition s.position.toNat s.windowTrimNow then (if 0 < s.windowTrimNow then 2 else 0)
  else if s.slewActs then (if 0 < s.slew then 2 else 0)
  else 1

/-- One unit towards zero (R4). -/
def towardsZero (x : Int) : Int := if 0 < x then x - 1 else if x < 0 then x + 1 else 0

/-- The coming counted tick ends the trim window (R12). -/
def State.endsWindow (s : State) : Bool := s.position == BitVec.allOnes 24

/-- The counting of the TBU at a prescaler tick: a RUNNING timebase takes the step, moves the slew remainder and the
position, and loads the window trim at position 0; any other does not count it (R4, R12, R13). -/
def State.countTick (s : State) : State :=
  let s := { s with prescaler := 0 }
  if s.running then
    { s with
      time := s.time + BitVec.ofNat 52 s.tickStep
      position := s.position + 1
      windowTrim := s.windowTrimNow
      slew := if s.slewActs then towardsZero s.slew else s.slew
      tickTime := s.time + BitVec.ofNat 52 s.tickStep }
  else { s with tickTime := s.time }

/-- The tick is an advance (R5). -/
def State.advances (s : State) : Bool := s.running && s.tickStep != 0

/-- A rising edge of REFP is detected by a sample (R23). -/
def State.detects (s : State) (refp : Bool) : Bool := refp && !s.rdu.refpSample && !s.rdu.refpFresh

/-- The RDU's part of the counting and of the sampling: an advance that passes a rollover sets the crossing due (R31), and
REFP is sampled (R23). `before` is the state before the tick, `s` the state after its counting. -/
def State.rduTick (s before : State) (refp : Bool) : State :=
  let r := s.rdu
  let passed := before.advances && seconds s.time != seconds before.time
  let detected := before.detects refp
  { s with rdu := { r with
      crossingDue := r.crossingDue || passed
      refpSample := refp
      refpFresh := false
      edgeTime := if detected then s.tickTime else r.edgeTime } }

/-- The stamp a sample of this tick would give (R126). It reads the reference state before a crossing or a REFP edge of its
own tick is handled, which is the model's choice (log 27). -/
def State.stamp (s : State) (phase : Option Phase) : Stamp :=
  { time := s.tickTime, phase := phase.getD 0, notRunning := !s.running, refLocked := s.rdu.state == .locked }

/-- Every input is observed over the capture interval that ends, and its filter takes the sample (R124, R125). -/
def State.sampleInputs (s : State) (samples : TickInput) : State :=
  { s with inputs := each s.inputs fun i ch =>
      let ch := ch.observe (samples.levels.getLsbD i.val) samples.changes[i]
      ch.filterSample ch.sample (s.stamp ch.lastChange) }

/-- The pulse and wave timers advance while the timebase is RUNNING (R112, R114, R117). -/
def State.timerTick (s : State) : State :=
  if s.running then { s with lines := each s.lines fun l ln => ln.timerTick l } else s

/-- The engine counts the tick (R146). -/
def State.engineTick (s : State) : State := { s with calRun := s.calRun.map CalRun.tick }

/-- The steps that a tick makes due, in the order they are taken when the sender chooses none (log 1). `before` is the
state before the tick's counting, `s` the state after its counting, sampling and timers. -/
def State.tickWork (s before : State) (detected : Bool) : List Event :=
  (if before.slew ≠ 0 ∧ s.slew = 0 then [.slewDone] else [])
  ++ (if before.running && before.endsWindow then [.windowEnd] else [])
  ++ (if before.advances && s.rdu.crossingDue && decide (s.rdu.narrow < fraction s.time) then [.crossing] else [])
  ++ (if before.running then (List.finRange 8).filterMap fun l => before.lines[l].dueStep l else [])
  ++ (match s.calRun with
      | some c => c.due
      | none => [])
  ++ (((List.finRange 8).filter fun i => s.inputs[i].ready.isSome).map Event.edgeAccepted)
  ++ (if detected then [.refpEdge] else [])

/-- Every pin takes the level of its line (R108). -/
def State.placePins (s : State) : State := { s with lines := each s.lines fun _ ln => ln.placePin }

/-- The counting, the samples, the timers and the engine of a tick, and the steps it makes due (R1). The filters take their
samples before the run of the engine can end on the same tick, so that a candidate which the loop input's sample begins or
lengthens there is discarded with the diversion: the model's choice (log 30). -/
def State.countAll (s : State) (samples : TickInput) : State :=
  let t := (((s.countTick.rduTick s samples.refp).sampleInputs samples).timerTick).engineTick
  { t with work := t.work ++ t.tickWork s (s.detects samples.refp) }

/-- The firing check of a tick's advance, that of a wrap when the time value has wrapped; `before` is the state before the
tick (R5, R85, R104). -/
def State.advanceCheck (s before : State) : State :=
  if before.advances then s.fireCheck (decide (s.tickTime.toNat < before.time.toNat)) s.tickTime else s

/-- The notice of a slew that the counting of an advance has ended: the slew adjustment makes it, so it comes before the
advance is offered to the Schedule Unit and every other block (R4, R11, R17, R95). `before` is the state before the tick. -/
def State.tellSlewDone (s before : State) : State := if before.advances then s.takeOne .slewDone else s

/-- The tick of a part whose main domain works: pins, counting, samples, timers and engine; then the notice of a slew that
ended; then the chosen early steps, with the end of a run whose step 15 they judged (R148, R151); then the firing check of the advance; then a REFP edge of the
tick before, if it was left for after the count. That edge comes before a crossing of this tick, so that an edge within N
leaves the credit that the crossing consumes (R31), unless `early` names the crossing: the model's choice (log 21). -/
def State.mainTick (s : State) (samples : TickInput) (order : TickOrder) : State :=
  let counted := (s.placePins.countAll samples)
  let early := (order.early.filter mayPrecedeCheck).foldl State.takeEvent (counted.tellSlewDone s)
  let checked := early.endJudgedRun.advanceCheck s
  if order.refpAfter && s.work.contains .refpEdge then checked.takeOne .refpEdge else checked

/-- A prescaler tick. The due steps of the tick before are taken first, but for a REFP edge left for after the count
(R19, R29). Without VDDR no tick occurs (R1); with it alone, or while NRST is low, only the TBU counts (R1, R20, R22). -/
def State.prescalerTick (s : State) (samples : TickInput) (order : TickOrder) : State :=
  let s := if order.refpAfter then s.settleBut .refpEdge else s.settle
  if s.active then s.mainTick samples order
  else if s.vddr then s.countTick
  else s

end Sys2Proof.Machine
end

