-- ==== Sys2Proof/Machine/Frames.lean ====
section
/-! DEFINITION. How a command frame reaches a block, and how a step that is due is taken (R165, R166; logs 1, 2, 19). -/

namespace Sys2Proof.Machine

/-- A frame on port p ends: the steps that are due are taken first (log 1); a port that cannot take a frame ignores it
(R164, R165); a length over 24 gives no frame (R165); otherwise the frame is handled as `k` says. -/
def takeFrame (p : Port) (args : List Byte) (k : State → State) (s : State) : Outcome :=
  let s := s.settle
  if s.receiving p then
    if Config.maxArguments < args.length then .next (s.overlong p) else .next (k s)
  else .next s

/-- The third check of R166, and the response: a wrong argument length answers BAD_ARG and no block sees the command; the
block's answer is sent otherwise. -/
def answerCommand (p : Port) (len : Nat) (args : List Byte) (body : State → Answer) (s : State) : State :=
  if args.length = len then
    let a := body s
    a.state.respond p a.status a.payload
  else s.respond p .badArg []

/-- A command with `len` argument bytes, carried out by `body`. -/
def takeCommand (p : Port) (len : Nat) (args : List Byte) (body : State → Answer) (s : State) : Outcome :=
  takeFrame p args (answerCommand p len args body) s

end Sys2Proof.Machine
end

