-- ==== Sys2Proof/Machine/CalibrationCommands.lean ====
section
/-! DEFINITION. CALIBRATE and READ CALIBRATION (R144, R145, R153). -/

namespace Sys2Proof.Machine

/-- The start of a run (R145). -/
def State.startRun (s : State) (p : Port) (l : Line) (i : Input) : State :=
  let saved := s.lines[l].fineDelay
  let s := s.updLine l fun ln => { ln with activity := .calibrating, level := ln.idle }
  let s := s.discardCandidate i
  { s with calRun := some { requester := p, line := l, input := i, savedDelay := saved, count := 0, begun := false,
                            trials := Vector.replicate 4 none, passMask := 0 } }

/-- CALIBRATE: the five checks of R144, then the start of a run (R145). -/
def calibrate (p : Port) (args : List Byte) (s : State) : Answer :=
  match indexField 8 args 0, indexField 8 args 1 with
  | some l, some i =>
    if !(s.holds p (lineResource l) && s.holds p (inputResource i)) then s.refuse .notHolder
    else if !s.running then s.refuse .state
    else if s.calRun.isSome then s.refuse .busy
    else if s.lines[l].activity ≠ .steady then s.refuse .busy
    else (s.startRun p l i).ok []
  | _, _ => s.refuse .badArg

/-- A step or input number as a byte, 0xFF when absent (R153). -/
def absentByte {n : Nat} : Option (Fin n) → Byte
  | some k => BitVec.ofNat 8 k.val
  | none => 0xFF

/-- The last six bytes of READ CALIBRATION: the run on the line, if there is one (R153). -/
def State.runReport (s : State) (l : Line) : List Byte :=
  match s.calRun with
  | some c =>
    if c.line = l then
      [1, BitVec.ofNat 8 c.savedDelay.val, BitVec.ofNat 8 c.step, BitVec.ofNat 8 c.requester.val]
        ++ bytes 2 c.passMask.toNat
    else [0, 0, 0, 0xFF, 0, 0]
  | none => [0, 0, 0, 0xFF, 0, 0]

/-- READ CALIBRATION (R153). -/
def readCalibration (args : List Byte) (s : State) : Answer :=
  match indexField 8 args 0 with
  | none => s.refuse .badArg
  | some l =>
    let r := s.results[l]
    s.ok ([BitVec.ofNat 8 l.val, BitVec.ofNat 8 (outcomeCode r.outcome), BitVec.ofNat 8 (reasonCode r.reason)]
      ++ bytes 2 r.passMask.toNat ++ [absentByte r.lower, absentByte r.upper, absentByte r.input] ++ s.runReport l)

/-- The row CALIBRATE. -/
def execCalibrate (p : Port) (args : List Byte) (s : State) : Outcome := takeCommand p 2 args (calibrate p args) s

/-- The row READ_CALIBRATION. -/
def execReadCalibration (p : Port) (args : List Byte) (s : State) : Outcome :=
  takeCommand p 1 args (readCalibration args) s

end Sys2Proof.Machine
end

