-- ==== Sys2Proof/Machine/CaptureCommands.lean ====
section
/-! DEFINITION. CONFIGURE INPUT, SUBSCRIBE, READ CAPTURES, READ COUNTERS and CLEAR COUNTER (R128 to R130, R138 to R140). -/

namespace Sys2Proof.Machine

/-- The edge select of a code (R128). -/
def edgeSelectOf : Nat → Option EdgeSelect
  | 0 => some .none
  | 1 => some .rising
  | 2 => some .falling
  | 3 => some .both
  | _ => none

/-- The filter length of an argument: 1, 2, 4 or 8 (R128). -/
def filterOf : Nat → Option FilterLength
  | 1 => some .one
  | 2 => some .two
  | 4 => some .four
  | 8 => some .eight
  | _ => none

/-- CONFIGURE INPUT: a change of filter length discards the candidate (R128). -/
def configureInput (p : Port) (args : List Byte) (s : State) : Answer :=
  match indexField 8 args 0, edgeSelectOf (arg args 1), filterOf (arg args 2) with
  | some i, some sel, some len =>
    if !s.holds p (inputResource i) then s.refuse .notHolder
    else if s.diverted i then s.refuse .busy
    else
      (s.updInput i fun ch =>
        { ch with edgeSelect := sel, filter := len
                  candidate := if len = ch.filter then ch.candidate else none }).ok []
  | _, _, _ => s.refuse .badArg

/-- SUBSCRIBE (R140). -/
def subscribe (p : Port) (args : List Byte) (s : State) : Answer :=
  if 1 < arg args 1 then s.refuse .badArg
  else
    let s := s.updPort p fun c =>
      { c with subscription := BitVec.ofNat 8 (arg args 0)
               cursor := if arg args 1 = 1 then s.nextSeq else c.cursor }
    let s := s.evaluateCapture p
    s.ok (bytes 4 s.ports[p].cursor.toNat)

/-- READ CAPTURES: the cursor passes every record examined, then CAPTURE is evaluated (R138, R139). -/
def readCaptures (p : Port) (args : List Byte) (s : State) : Answer :=
  let max := arg args 0
  if max = 0 ∨ 4 < max then s.refuse .badArg
  else
    let (out, n) := examine s.ports[p].subscription max (s.unread s.ports[p].cursor)
    let s := (s.updPort p fun c => { c with cursor := c.cursor + BitVec.ofNat 32 n }).evaluateCapture p
    s.ok ([BitVec.ofNat 8 out.length, BitVec.ofNat 8 (bit s.ports[p].capture)]
      ++ bytes 4 s.ports[p].cursor.toNat ++ bytes 4 s.nextSeq.toNat ++ out.flatMap recordBytes)

/-- The code of an edge select (R129). -/
def edgeSelectCode : EdgeSelect → Nat
  | .none => 0
  | .rising => 1
  | .falling => 2
  | .both => 3

/-- The code of a filter length in READ COUNTERS (R129). -/
def filterCode : FilterLength → Nat
  | .one => 0
  | .two => 1
  | .four => 2
  | .eight => 3

/-- The five bytes of an input in READ COUNTERS (R129). -/
def Channel.report (ch : Channel) (diverted : Bool) : List Byte :=
  bytes 4 ch.counter.toNat
    ++ [BitVec.ofNat 8 (edgeSelectCode ch.edgeSelect + 4 * filterCode ch.filter + 16 * bit ch.accepted
          + 32 * bit diverted)]

/-- READ COUNTERS (R129). -/
def readCounters (s : State) : Answer :=
  s.ok ((List.finRange 8).flatMap fun i => s.inputs[i].report (s.diverted i))

/-- CLEAR COUNTER (R130). -/
def clearCounter (p : Port) (args : List Byte) (s : State) : Answer :=
  match indexField 8 args 0 with
  | none => s.refuse .badArg
  | some i =>
    if !s.holds p (inputResource i) then s.refuse .notHolder
    else (s.updInput i fun ch => { ch with counter := 0 }).ok (bytes 4 s.inputs[i].counter.toNat)

/-- The row CONFIGURE_INPUT. -/
def execConfigureInput (p : Port) (args : List Byte) (s : State) : Outcome :=
  takeCommand p 3 args (configureInput p args) s

/-- The row SUBSCRIBE. -/
def execSubscribe (p : Port) (args : List Byte) (s : State) : Outcome := takeCommand p 2 args (subscribe p args) s

/-- The row READ_CAPTURES. -/
def execReadCaptures (p : Port) (args : List Byte) (s : State) : Outcome :=
  takeCommand p 1 args (readCaptures p args) s

/-- The row READ_COUNTERS. -/
def execReadCounters (p : Port) (args : List Byte) (s : State) : Outcome := takeCommand p 0 args readCounters s

/-- The row CLEAR_COUNTER. -/
def execClearCounter (p : Port) (args : List Byte) (s : State) : Outcome :=
  takeCommand p 1 args (clearCounter p args) s

end Sys2Proof.Machine
end

