-- ==== Sys2Proof/Machine/ClaimCommands.lean ====
section
/-! DEFINITION. CLAIM, RELEASE and QUERY CLAIMS (R43 to R47, R56). -/

namespace Sys2Proof.Machine

/-- A port's place in a waiter list, counted from 1 (R44). -/
def placeOf (p : Port) (waiters : List Port) : Nat := waiters.idxOf p + 1

/-- CLAIM (R43, R44). -/
def claim (p : Port) (args : List Byte) (s : State) : Answer :=
  match indexField 17 args 0 with
  | none => s.refuse .badArg
  | some r =>
    if 1 < arg args 1 then s.refuse .badArg
    else
      let c := s.claims[r]
      match c.holder with
      | none => (s.updClaim r fun c => { c with holder := some p }).ok []
      | some h =>
        if h = p then s.ok []
        else if arg args 1 = 0 then { state := s, status := .heldBy, payload := [BitVec.ofNat 8 h.val] }
        else
          let waiters := if c.waiters.contains p then c.waiters else c.waiters ++ [p]
          { state := s.updClaim r fun c => { c with waiters := waiters }
            status := .queued
            payload := [BitVec.ofNat 8 h.val, BitVec.ofNat 8 (placeOf p waiters)] }

/-- RELEASE (R46). -/
def release (p : Port) (args : List Byte) (s : State) : Answer :=
  match indexField 17 args 0 with
  | none => s.refuse .badArg
  | some r =>
    let c := s.claims[r]
    if c.holder = some p then
      let s' := s.giveUp false p r
      s'.ok [BitVec.ofNat 8 (s.cascadeCount p r), portByte s'.claims[r].holder]
    else if c.waiters.contains p then
      (s.updClaim r fun c => c.leave p).ok [0, portByte c.holder]
    else s.refuse .notHolder

/-- The four bytes of a claim record: holder and the three waiters, 0xFF for an absent one (R56). -/
def ClaimRecord.report (c : ClaimRecord) : List Byte :=
  [portByte c.holder, portByte c.waiters[0]?, portByte c.waiters[1]?, portByte c.waiters[2]?]

/-- QUERY CLAIMS (R56). -/
def queryClaims (s : State) : Answer := s.ok (s.claims.toList.flatMap ClaimRecord.report)

/-- The row CLAIM. -/
def execClaim (p : Port) (args : List Byte) (s : State) : Outcome := takeCommand p 2 args (claim p args) s

/-- The row RELEASE. -/
def execRelease (p : Port) (args : List Byte) (s : State) : Outcome := takeCommand p 1 args (release p args) s

/-- The row QUERY_CLAIMS. -/
def execQueryClaims (p : Port) (args : List Byte) (s : State) : Outcome := takeCommand p 0 args queryClaims s

end Sys2Proof.Machine
end

