-- ==== Sys2Proof/Machine/TableCommands.lean ====
section
/-! DEFINITION. SCHEDULE, CANCEL, QUERY ENTRY and LIST ENTRIES (R60, R67 to R77). -/

namespace Sys2Proof.Machine

/-! ### The arguments of SCHEDULE (11.7.3) -/

/-- The options byte says armed form. -/
def optArmed (args : List Byte) : Bool := (arg args 2).testBit 0

/-- The options byte gives Repeat. -/
def optRepeat (args : List Byte) : Bool := (arg args 2).testBit 4

/-- The options byte sets Rearm. -/
def optRearm (args : List Byte) : Bool := (arg args 2).testBit 5

/-- The notify code of the options byte. -/
def optNotify (args : List Byte) : Nat := arg args 2 / 4 % 4

/-- The Width argument. -/
def widthArg (args : List Byte) : Nat := field args 11 3

/-- The Period argument. -/
def periodArg (args : List Byte) : Nat := field args 14 4

/-- The Count argument. -/
def countArg (args : List Byte) : Nat := field args 18 2

/-- None of the conditions of R68 holds. -/
def scheduleArgsOk (args : List Byte) : Bool :=
  decide (arg args 0 ≤ 6)
  && (if arg args 0 = 6 then decide (arg args 1 = 0) else decide (arg args 1 < 8))
  && decide (optNotify args ≠ 3)
  && decide (arg args 2 < 64)
  && (optArmed args || !optRearm args)
  && (if arg args 0 = 3 then decide (1 ≤ widthArg args ∧ widthArg args ≤ Config.maxTicks) else decide (widthArg args = 0))
  && (if optRepeat args then decide (16 ≤ periodArg args ∧ periodArg args ≤ 1073741824)
      else decide (periodArg args = 0 ∧ countArg args = 0))
  && (if optArmed args then decide (arg args 3 < 8 ∧ field args 7 4 = 0)
      else timeFieldOk args 4 && decide (arg args 3 = 0))

/-- The kind with its line and width (R62). Meaningful when `scheduleArgsOk` holds. -/
def jobArg (args : List Byte) : Job :=
  let line : Line := Fin.ofNat 8 (arg args 1)
  match arg args 0 with
  | 0 => .act line .set
  | 1 => .act line .clear
  | 2 => .act line .toggle
  | 3 => .act line (.pulse (widthArg args))
  | 4 => .act line .waveStart
  | 5 => .act line .waveStop
  | _ => .mark

/-- The notify setting (11.7.3). -/
def notifyArg (args : List Byte) : Notify :=
  match optNotify args with
  | 0 => .never
  | 1 => .last
  | _ => .all

/-- The Initial count: UNLIMITED for a Count of 0 (R63). -/
def initialArg (args : List Byte) : Count := cyclesOf (countArg args)

/-- The entry that the arguments describe, owned by port p (R61, R63, R72). -/
def entryArg (p : Port) (args : List Byte) : Entry :=
  { owner := p
    job := jobArg args
    form := if optArmed args then
        .armed (Fin.ofNat 8 (arg args 3)) (BitVec.ofNat 24 (field args 4 3)) (optRearm args)
      else .timed
    due := if optArmed args then none else some (timeField args 4)
    series := if optRepeat args then some { period := periodArg args, initial := initialArg args } else none
    remaining := if optRepeat args then initialArg args else .finite 1
    late := if (arg args 2).testBit 1 then .fire else .drop
    notify := notifyArg args
    tag := BitVec.ofNat 16 (field args 20 2) }

/-- A Due is overdue at a time: earlier by more than 1 tick (00_scope.md 1.5.5, R71). -/
def overdue (due now : TimeValue) : Bool := decide (due.toNat + 1 < now.toNat)

/-- The last check of SCHEDULE: a timed entry of policy DROP whose Due is overdue (R67, R71). -/
def Entry.isPast (e : Entry) (now : TimeValue) : Bool :=
  match e.due with
  | some d => e.late == .drop && overdue d now
  | none => false

/-- The line an entry needs the claim of; none for a MARK (R42). -/
def Job.line : Job → Option Line
  | .act l _ => some l
  | .mark => none

/-- The claim check of SCHEDULE (R70). -/
def State.mayUse (s : State) (p : Port) (j : Job) : Bool :=
  match j.line with
  | some l => s.holds p (lineResource l)
  | none => true

/-- Place an entry in a slot: ARMED outside the due order, or PENDING in it (R72 steps 1 to 3). -/
def State.placeEntry (s : State) (k : Slot) (e : Entry) : State :=
  match e.due with
  | some d => s.makePending k e d
  | none => { s with slots := upd s.slots k fun _ => some e }

/-- Step 5 of R72: the firing check of a timed entry that is already due in a RUNNING timebase. -/
def State.checkNew (s : State) (e : Entry) : State :=
  match e.due with
  | some d => if s.running && decide (d.toNat ≤ s.time.toNat) then s.fireCheck false s.time else s
  | none => s

/-- SCHEDULE: the six checks of R67 in order, then the entry (R72). -/
def schedule (p : Port) (args : List Byte) (s : State) : Answer :=
  if s.timebase = .unset then s.refuse .noTime
  else if !scheduleArgsOk args then s.refuse .badArg
  else
    let e := entryArg p args
    if !s.mayUse p e.job then s.refuse .notHolder
    else
      match s.freeSlot with
      | none => s.refuse .full
      | some k =>
        if Config.quota ≤ s.entryCount p then s.refuse .quota
        else if e.isPast s.time then s.refuse .past
        else ((s.placeEntry k e).checkNew e).ok (handleBytes (s.handleOf k))

/-- Remaining as two bytes: 0 for UNLIMITED (R74, R76). -/
def countNumber : Count → Nat
  | .unlimited => 0
  | .finite n => n

/-- CANCEL (R74). -/
def cancel (p : Port) (args : List Byte) (s : State) : Answer :=
  match indexField 64 args 1 with
  | none => s.refuse .badArg
  | some k =>
    match s.named p (arg args 0) k with
    | none => s.refuse .unknownHandle
    | some e => (s.removeEntry k).ok (bytes 2 (countNumber e.remaining))

/-- The Kind code (R62). -/
def kindCode : Job → Nat
  | .act _ .set => 0
  | .act _ .clear => 1
  | .act _ .toggle => 2
  | .act _ (.pulse _) => 3
  | .act _ .waveStart => 4
  | .act _ .waveStop => 5
  | .mark => 6

/-- The Width of an entry, 0 for kinds other than PULSE (R76). -/
def widthOf : Job → Nat
  | .act _ (.pulse w) => w
  | _ => 0

/-- The notify code (11.7.3). -/
def notifyCode : Notify → Nat
  | .never => 0
  | .last => 1
  | .all => 2

/-- The options byte of an entry, coded as in the SCHEDULE arguments (R76, 11.7.3). -/
def Entry.options (e : Entry) : Nat :=
  (match e.form with
    | .timed => 0
    | .armed _ _ rearm => 1 + 32 * bit rearm)
  + 2 * bit (e.late == .fire) + 4 * notifyCode e.notify + 16 * bit e.series.isSome

/-- The Trigger input and the Offset of an entry, 0 for the timed form (R76). -/
def Entry.triggerAndOffset (e : Entry) : Nat × Nat :=
  match e.form with
  | .timed => (0, 0)
  | .armed i offset _ => (i.val, offset.toNat)

/-- The thirty bytes of QUERY ENTRY (R76). -/
def entryReport (h : Handle) (e : Entry) : List Byte :=
  handleBytes h
    ++ [BitVec.ofNat 8 (bit e.due.isSome), BitVec.ofNat 8 (kindCode e.job),
        BitVec.ofNat 8 (match e.job.line with
          | some l => l.val
          | none => 0),
        BitVec.ofNat 8 e.options, BitVec.ofNat 8 e.triggerAndOffset.1]
    ++ timeBytes (e.due.getD 0) ++ bytes 3 e.triggerAndOffset.2 ++ bytes 3 (widthOf e.job)
    ++ bytes 4 (match e.series with
        | some r => r.period
        | none => 0)
    ++ bytes 2 (countNumber e.remaining)
    ++ bytes 2 (match e.series with
        | some r => countNumber r.initial
        | none => 0)
    ++ bytes 2 e.tag.toNat

/-- QUERY ENTRY (R76). -/
def queryEntry (p : Port) (args : List Byte) (s : State) : Answer :=
  match indexField 64 args 1 with
  | none => s.refuse .badArg
  | some k =>
    match s.named p (arg args 0) k with
    | none => s.refuse .unknownHandle
    | some e => s.ok (entryReport (s.handleOf k) e)

/-- The slots of a port's entries as LIST ENTRIES gives them: PENDING in due order, then ARMED in ascending slot order
(R77). -/
def State.listedSlots (s : State) (p : Port) : List (Slot × Bool) :=
  ((s.dueOrder.filter fun k => match s.slots[k] with
      | some e => e.owner == p
      | none => false).map fun k => (k, true))
    ++ ((s.slotsWhere fun e => e.owner == p && e.due.isNone).map fun k => (k, false))

/-- LIST ENTRIES (R77). -/
def listEntries (p : Port) (s : State) : Answer :=
  s.ok ((s.listedSlots p).flatMap fun x => handleBytes (s.handleOf x.1) ++ [BitVec.ofNat 8 (bit x.2)])

/-- The row SCHEDULE. -/
def execSchedule (p : Port) (args : List Byte) (s : State) : Outcome := takeCommand p 22 args (schedule p args) s

/-- The row CANCEL. -/
def execCancel (p : Port) (args : List Byte) (s : State) : Outcome := takeCommand p 2 args (cancel p args) s

/-- The row QUERY_ENTRY. -/
def execQueryEntry (p : Port) (args : List Byte) (s : State) : Outcome := takeCommand p 2 args (queryEntry p args) s

/-- The row LIST_ENTRIES. -/
def execListEntries (p : Port) (args : List Byte) (s : State) : Outcome := takeCommand p 0 args (listEntries p) s

end Sys2Proof.Machine
end

