-- ==== Sys2Proof/Machine/LineCommands.lean ====
section
/-! DEFINITION. CONFIGURE LINE and READ LINE (R119 to R121). -/

namespace Sys2Proof.Machine

/-- The arguments of CONFIGURE LINE are good, its line apart (R119). -/
def lineArgsOk (args : List Byte) : Bool :=
  let period := field args 3 3
  let high := field args 6 3
  decide (arg args 1 < 4 ∧ arg args 2 ≤ 15 ∧ 2 ≤ period ∧ period ≤ Config.maxTicks ∧ high ≠ 0 ∧ high < period)

/-- The six settings written by CONFIGURE LINE (R119). -/
def LineUnit.configure (ln : LineUnit) (args : List Byte) : LineUnit :=
  { ln with
    idle := (arg args 1).testBit 0
    waveDone := (arg args 1).testBit 1
    fineDelay := Fin.ofNat 16 (arg args 2)
    wavePeriod := field args 3 3
    waveHigh := field args 6 3
    waveCycles := field args 9 2 }

/-- CONFIGURE LINE (R119, R120). -/
def configureLine (p : Port) (args : List Byte) (s : State) : Answer :=
  match indexField 8 args 0 with
  | none => s.refuse .badArg
  | some l =>
    if !lineArgsOk args then s.refuse .badArg
    else if !s.holds p (lineResource l) then s.refuse .notHolder
    else if s.lines[l].activity = .calibrating then s.refuse .busy
    else (s.updLine l fun ln => ln.configure args).ok []

/-- The activity code (R107). -/
def activityCode : Activity → Nat
  | .steady => 0
  | .pulsing _ => 1
  | .waving _ => 2
  | .calibrating => 3

/-- The pulse remainder; 0 unless PULSING (R121). -/
def LineUnit.pulseRemainder (ln : LineUnit) : Nat :=
  match ln.activity with
  | .pulsing r => r
  | _ => 0

/-- The last eleven bytes of READ LINE: the running wave copy, zeros unless WAVING (R121). -/
def LineUnit.waveReport (ln : LineUnit) : List Byte :=
  match ln.activity with
  | .waving w => bytes 3 w.period ++ bytes 3 w.high ++ bytes 2 (countNumber w.left) ++ bytes 3 w.position
  | _ => bytes 11 0

/-- READ LINE (R121). -/
def readLine (args : List Byte) (s : State) : Answer :=
  match indexField 8 args 0 with
  | none => s.refuse .badArg
  | some l =>
    let ln := s.lines[l]
    s.ok ([BitVec.ofNat 8 l.val, BitVec.ofNat 8 (bit ln.idle + 2 * bit ln.level + 4 * bit ln.waveDone),
        BitVec.ofNat 8 (activityCode ln.activity), BitVec.ofNat 8 ln.fineDelay.val]
      ++ bytes 3 ln.wavePeriod ++ bytes 3 ln.waveHigh ++ bytes 2 ln.waveCycles ++ bytes 3 ln.pulseRemainder
      ++ ln.waveReport)

/-- The row CONFIGURE_LINE. -/
def execConfigureLine (p : Port) (args : List Byte) (s : State) : Outcome :=
  takeCommand p 11 args (configureLine p args) s

/-- The row READ_LINE. -/
def execReadLine (p : Port) (args : List Byte) (s : State) : Outcome := takeCommand p 1 args (readLine args) s

end Sys2Proof.Machine
end

