-- ==== Sys2Proof/Machine/NoticeCommands.lean ====
section
/-! DEFINITION. TAKE NOTICES and SET ATTENTION (R160, R162). -/

namespace Sys2Proof.Machine

/-- The Kind code of a notice (R156). -/
def noticeCode : NoticeKind → Nat
  | .fired => 0
  | .firedLate => 1
  | .dropped => 2
  | .waveDone => 3
  | .granted => 4
  | .calDone => 5
  | .timeChanged => 6
  | .refState => 7

/-- The sixteen bytes of a notice (11.7.5). -/
def noticeBytes (n : Notice) : List Byte :=
  [BitVec.ofNat 8 (noticeCode n.kind), BitVec.ofNat 8 (bit n.handle.isSome + 2 * bit n.tag.isSome)]
    ++ (match n.handle with
        | some h => handleBytes h
        | none => [0, 0])
    ++ bytes 2 (n.tag.getD 0).toNat ++ timeBytes n.time ++ bytes 3 n.detail.toNat

/-- TAKE NOTICES (R160). -/
def takeNotices (p : Port) (args : List Byte) (s : State) : Answer :=
  let max := arg args 0
  if max = 0 ∨ 4 < max then s.refuse .badArg
  else
    let out := s.ports[p].queue.take max
    let s := s.updPort p fun c =>
      let rest := c.queue.drop max
      { c with queue := rest, notice := !rest.isEmpty }
    s.ok ([BitVec.ofNat 8 out.length, BitVec.ofNat 8 s.ports[p].queue.length, s.ports[p].flagByte]
      ++ out.flatMap noticeBytes)

/-- SET ATTENTION (R162). -/
def setAttention (p : Port) (args : List Byte) (s : State) : Answer :=
  if 7 < arg args 0 then s.refuse .badArg
  else
    let s := s.updPort p fun c => { c with mask := BitVec.ofNat 3 (arg args 0) }
    s.ok [s.ports[p].flagByte]

/-- The row TAKE_NOTICES. -/
def execTakeNotices (p : Port) (args : List Byte) (s : State) : Outcome := takeCommand p 1 args (takeNotices p args) s

/-- The row SET_ATTENTION. -/
def execSetAttention (p : Port) (args : List Byte) (s : State) : Outcome :=
  takeCommand p 1 args (setAttention p args) s

end Sys2Proof.Machine
end

