-- ==== Sys2Proof/Machine/PortCommands.lean ====
section
/-! DEFINITION. IDENTIFY, READ STATUS and PORT RESET, the frames that are not taken, and the opening and closing of a
transaction (R165 to R172). -/

namespace Sys2Proof.Machine

/-- IDENTIFY (R169). -/
def identify (p : Port) (s : State) : Answer :=
  s.ok (bytes 2 Config.vendor ++ bytes 2 Config.part ++ bytes 1 Config.revision ++ bytes 1 p.val)

/-- The eighteen bytes of READ STATUS (R170). -/
def statusReport (p : Port) (s : State) : List Byte :=
  let c := s.ports[p]
  [BitVec.ofNat 8 (timebaseCode s.timebase), BitVec.ofNat 8 (refCode s.rdu.state)]
    ++ signedBytes 3 s.slew ++ signedBytes 2 s.trim
    ++ [BitVec.ofNat 8 (bit s.rdu.autoTrim + 2 * bit s.calRun.isSome), c.flagByte, c.mask.setWidth 8]
    ++ bytes 2 c.lostNotices.toNat ++ bytes 2 c.lostCaptures.toNat ++ bytes 2 c.frameErrors.toNat
    ++ [BitVec.ofNat 8 (s.entryCount p), portByte (s.calRun.map CalRun.requester)]

/-- The clear option of READ STATUS (R161, R170). -/
def Client.clearCounts (c : Client) : Client :=
  { c with loss := false, lostNotices := 0, lostCaptures := 0, frameErrors := 0 }

/-- READ STATUS (R170). -/
def readStatus (p : Port) (args : List Byte) (s : State) : Answer :=
  if 1 < arg args 0 then s.refuse .badArg
  else
    { state := if arg args 0 = 1 then s.updPort p Client.clearCounts else s
      status := .ok
      payload := statusReport p s }

/-- PORT RESET: answered OK, and the reset is pending until the response ends (R171). -/
def portResetCommand (p : Port) (s : State) : Answer :=
  (s.updPort p fun c => { c with resetPending := true }).ok []

/-- The response of a port has ended: a pending port reset is due (R171). -/
def State.responseEnds (s : State) (p : Port) : State :=
  if s.ports[p].resetPending then
    { s.updPort p fun c => { c with resetPending := false } with work := s.work ++ [.portResetTaken p] }
  else s

/-- PnCS falls: a transaction opens, unless the port or the part is in reset (R165). -/
def State.openTransaction (s : State) (p : Port) : State :=
  let opens := s.active && !s.ports[p].rstLow
  s.updPort p fun c => if opens then { c with csLow := true, rx := .command } else { c with csLow := true }

/-- PnCS rises: the transaction closes; a frame cut off in COMMAND is a frame error if any clock edge came (R167). -/
def State.closeTransaction (s : State) (p : Port) (clocked : Bool) : State :=
  (s.updPort p fun c =>
    { c with csLow := false, rx := .closed, response := []
             frameErrors := if c.rx = .command ∧ clocked then satInc c.frameErrors else c.frameErrors }).responseEnds p

/-- The last byte of the response has been sent (R165). -/
def State.endResponse (s : State) (p : Port) : State :=
  (s.updPort p fun c => { c with rx := .trailing, response := [] }).responseEnds p

/-- The row IDENTIFY. -/
def execIdentify (p : Port) (args : List Byte) (s : State) : Outcome := takeCommand p 0 args (identify p) s

/-- The row READ_STATUS. -/
def execReadStatus (p : Port) (args : List Byte) (s : State) : Outcome := takeCommand p 1 args (readStatus p args) s

/-- The row PORT_RESET. -/
def execPortReset (p : Port) (args : List Byte) (s : State) : Outcome := takeCommand p 0 args (portResetCommand p) s

/-- The row BAD_COMMAND: a good check byte, an unknown code; a known code is not this row's frame (R166, log 2). -/
def execBadCommand (p : Port) (code : Byte) (args : List Byte) (s : State) : Outcome :=
  takeFrame p args (fun s => if commandCodes.contains code then s else s.respond p .badCommand []) s

/-- The row BAD_FRAME: a wrong check byte; a right one is not this row's frame (R166, log 2). -/
def execBadFrame (p : Port) (code : Byte) (args : List Byte) (check : Byte) (s : State) : Outcome :=
  takeFrame p args (fun s =>
    if check = crc8 (frameBody code args) then s
    else (s.updPort p fun c => { c with frameErrors := satInc c.frameErrors }).respond p .badFrame []) s

/-- The row ARGUMENT_LENGTH_OVER_24; a length of at most 24 is not this row's event (R165, log 2). -/
def execArgumentLengthOver24 (p : Port) (_code : Byte) (length : Byte) (s : State) : Outcome :=
  let s := s.settle
  .next (if s.receiving p && decide (Config.maxArguments < length.toNat) then s.overlong p else s)

/-- The row PNCS_FALL; PnCS that is low already does not fall (log 2). -/
def execPncsFall (p : Port) (s : State) : Outcome :=
  let s := s.settle
  .next (if s.ports[p].csLow then s else s.openTransaction p)

/-- The row PNCS_RISE; PnCS that is high already does not rise (log 2). -/
def execPncsRise (p : Port) (clocked : Bool) (s : State) : Outcome :=
  let s := s.settle
  .next (if s.ports[p].csLow then s.closeTransaction p clocked else s)

/-- The row LAST_RESPONSE_BYTE_SENT; a port that sends no response has no last byte (log 2). -/
def execLastResponseByteSent (p : Port) (s : State) : Outcome :=
  let s := s.settle
  .next (if s.active && s.ports[p].rx == .response then s.endResponse p else s)

end Sys2Proof.Machine
end

