-- ==== Sys2Proof/Machine/TimebaseCommands.lean ====
section
/-! DEFINITION. READ TIME, HOLD, LOAD TIME, RUN, SET TRIM and SLEW (R6 to R18). -/

namespace Sys2Proof.Machine

/-- READ TIME: the state code and the time value (R7). -/
def readTime (s : State) : Answer :=
  s.ok (BitVec.ofNat 8 (timebaseCode s.timebase) :: timeBytes s.time)

/-- Step 2 of HOLD: a pending slew is cancelled with its notice (R8). -/
def State.cancelSlew (s : State) : State :=
  if s.slew ≠ 0 then State.timeChanged { s with slew := 0 } .slewCancelled s.time else s

/-- The RDU becomes OFF, with a REF_STATE notice, if it was not OFF (R8 step 3, R25, R37). -/
def State.turnRduOff (s : State) : State :=
  if s.rdu.state = .off then s else State.refStateChanged { s with rdu := s.rdu.enter .off } .off s.time

/-- HOLD, after the checks of R6 (R8). The line timers freeze because they advance only while RUNNING. -/
def hold (p : Port) (s : State) : Answer :=
  if !s.holds p timeResource then s.refuse .notHolder
  else if !s.running then s.refuse .state
  else
    let s := { s with timebase := .held }
    let s := (s.cancelSlew.turnRduOff.abortCalibration .hold).timeChanged .held s.time
    s.ok (timeBytes s.time)

/-- LOAD TIME (R9). -/
def loadTime (p : Port) (args : List Byte) (s : State) : Answer :=
  if !timeFieldOk args 0 then s.refuse .badArg
  else if !s.holds p timeResource then s.refuse .notHolder
  else if s.running then s.refuse .state
  else
    let t := timeField args 0
    let s := { s with time := t, timebase := .held, marker := true }
    (s.timeChanged .loaded t).ok []

/-- RUN (R10): SEARCHING if the reference is enabled, the marker, RESUMED, then the firing check at the held value. -/
def run (p : Port) (s : State) : Answer :=
  if !s.holds p timeResource then s.refuse .notHolder
  else if s.timebase ≠ .held then s.refuse .state
  else
    let t := s.time
    let s := { s with timebase := .running }
    let s := if s.rdu.enable then
        State.refStateChanged { s with rdu := s.rdu.enter .searching } .searching t
      else s
    let s := State.timeChanged { s with marker := true } .resumed t
    (s.fireCheck false t).ok (timeBytes t)

/-- SET TRIM (R15). -/
def setTrim (p : Port) (args : List Byte) (s : State) : Answer :=
  let v := signedField args 0 2
  if v < -1024 ∨ 1023 < v then s.refuse .badArg
  else if !s.holds p timeResource then s.refuse .notHolder
  else if s.rdu.autoTrim then s.refuse .conflict
  else State.ok { s with trim := v } []

/-- SLEW (R16). -/
def slew (p : Port) (args : List Byte) (s : State) : Answer :=
  let v := signedField args 0 3
  if v = 0 ∨ v < -524288 ∨ 524287 < v then s.refuse .badArg
  else if !s.holds p timeResource then s.refuse .notHolder
  else if !s.running then s.refuse .state
  else if s.rdu.state ≠ .off then s.refuse .conflict
  else if s.slew ≠ 0 then s.refuse .busy
  else State.ok { s with slew := v } []

/-- The row READ_TIME. -/
def execReadTime (p : Port) (args : List Byte) (s : State) : Outcome := takeCommand p 0 args readTime s

/-- The row HOLD. -/
def execHold (p : Port) (args : List Byte) (s : State) : Outcome := takeCommand p 0 args (hold p) s

/-- The row LOAD_TIME. -/
def execLoadTime (p : Port) (args : List Byte) (s : State) : Outcome := takeCommand p 7 args (loadTime p args) s

/-- The row RUN. -/
def execRun (p : Port) (args : List Byte) (s : State) : Outcome := takeCommand p 0 args (run p) s

/-- The row SET_TRIM. -/
def execSetTrim (p : Port) (args : List Byte) (s : State) : Outcome := takeCommand p 2 args (setTrim p args) s

/-- The row SLEW. -/
def execSlew (p : Port) (args : List Byte) (s : State) : Outcome := takeCommand p 3 args (slew p args) s

end Sys2Proof.Machine
end

