-- ==== Sys2Proof/Machine/ReferenceCommands.lean ====
section
/-! DEFINITION. SET REFERENCE and READ REFERENCE (R36, R37, R39). -/

namespace Sys2Proof.Machine

/-- The arguments of SET REFERENCE are good (R36). -/
def referenceArgsOk (args : List Byte) : Bool :=
  let w := field args 1 3
  let n := field args 4 3
  decide (arg args 0 < 4 ∧ Config.minWindow ≤ w ∧ w ≤ Config.maxWindow ∧ Config.minWindow ≤ n ∧ n ≤ Config.maxWindow
    ∧ n ≤ w)

/-- SET REFERENCE: the four settings, then the reference state (R36, R37). -/
def setReference (p : Port) (args : List Byte) (s : State) : Answer :=
  let enable := (arg args 0).testBit 0
  if !referenceArgsOk args then s.refuse .badArg
  else if !s.holds p timeResource then s.refuse .notHolder
  else if enable ∧ s.slew ≠ 0 then s.refuse .conflict
  else
    let s := { s with rdu := { s.rdu with
      enable := enable, autoTrim := (arg args 0).testBit 1, wide := field args 1 3, narrow := field args 4 3 } }
    if !enable then s.turnRduOff.ok []
    else if s.running ∧ s.rdu.state = .off then
      (State.refStateChanged { s with rdu := s.rdu.enter .searching } .searching s.time).ok []
    else s.ok []

/-- READ REFERENCE: configuration, state and discipline record (R39). -/
def readReference (s : State) : Answer :=
  let r := s.rdu
  s.ok ([BitVec.ofNat 8 (refCode r.state), BitVec.ofNat 8 (bit r.enable + 2 * bit r.autoTrim)]
    ++ bytes 3 r.wide ++ bytes 3 r.narrow ++ signedBytes 3 r.lastOffset ++ signedBytes 4 r.sum
    ++ signedBytes 4 r.lastSum ++ bytes 2 r.realignments.toNat ++ [BitVec.ofNat 8 r.misses]
    ++ bytes 2 r.strays.toNat)

/-- The row SET_REFERENCE. -/
def execSetReference (p : Port) (args : List Byte) (s : State) : Outcome :=
  takeCommand p 7 args (setReference p args) s

/-- The row READ_REFERENCE. -/
def execReadReference (p : Port) (args : List Byte) (s : State) : Outcome := takeCommand p 0 args readReference s

end Sys2Proof.Machine
end

