-- ==== Sys2Proof/Machine/ResetEvents.lean ====
section
/-! DEFINITION. Port reset by PnRST, device reset, retained reset and the supplies (R20 to R22, R171 to R173). -/

namespace Sys2Proof.Machine

/-- The row PORT_RESET_TAKEN: the reset of a PORT RESET command whose response has ended (R171, R172). -/
def execPortResetTaken (p : Port) (s : State) : Outcome := .next (s.takeEvent (.portResetTaken p))

/-- PnRST falls: the port is in reset from now until it rises. A reset of a PORT RESET command that is pending or due is
carried out as this one (R171, log 18). -/
def State.holdPortInReset (s : State) (p : Port) : State :=
  let s := s.updPort p fun c => { c with rstLow := true }
  if s.active then s.portReset p else s.updPort p fun c => { c with inReset := true }

/-- The row PNRST_FALL; PnRST that is low already does not fall (log 2). -/
def execPnrstFall (p : Port) (s : State) : Outcome :=
  let s := (s.dropWork fun e => e == .portResetTaken p && !s.ports[p].rstLow).settle
  .next (if s.ports[p].rstLow then s else s.holdPortInReset p)

/-- The row PNRST_RISE: the port reset ends (R159, R172). -/
def execPnrstRise (p : Port) (s : State) : Outcome :=
  let s := s.settle
  .next (if s.ports[p].rstLow then s.updPort p fun c => { c with rstLow := false, inReset := false } else s)

/-- The row DEVICE_RESET: NRST goes low, or the main supply returns (R22). -/
def execDeviceReset (cause : ResetCause) (s : State) : Outcome :=
  let s := s.settle
  .next (match cause with
    | .nrstLow => State.deviceReset { s with nrstLow := true }
    | .mainReturn => State.deviceReset { s with vddm := true })

/-- The row NRST_RISE: device reset ends; the items that the first sample sets stand as device reset left them
(R23, R125, R173). -/
def execNrstRise (s : State) : Outcome := .next { s.settle with nrstLow := false }

/-- The row RETAINED_RESET: VDDR returns (R20, R21). -/
def execRetainedReset (s : State) : Outcome :=
  .next (State.deviceReset { s.settle.clearRetained with vddr := true })

/-- The row MAIN_SUPPLY_LOSS: the main domain is lost, the retained one stays (R20, log 10). -/
def execMainSupplyLoss (s : State) : Outcome := .next (State.deviceReset { s.settle with vddm := false })

/-- The row VDDR_LOSS: the retained domain loses its contents and the part is held in device reset (R20, log 10). -/
def execVddrLoss (s : State) : Outcome := .next (State.deviceReset { s.settle.clearRetained with vddr := false })

end Sys2Proof.Machine
end

