-- ==== Sys2Proof/Machine/TickEvents.lean ====
section
/-! DEFINITION. The prescaler tick and the steps it makes due, as rows of the table. -/

namespace Sys2Proof.Machine

/-- The row PRESCALER_TICK (R1, R4, R5). -/
def execPrescalerTick (samples : TickInput) (order : TickOrder) (s : State) : Outcome :=
  .next (s.prescalerTick samples order)

/-- The row SLEW_DONE (R17). -/
def execSlewDone (s : State) : Outcome := .next (s.takeEvent .slewDone)

/-- The row WINDOW_END (R34, R35). -/
def execWindowEnd (s : State) : Outcome := .next (s.takeEvent .windowEnd)

/-- The row PULSE_END (R112). -/
def execPulseEnd (l : Line) (s : State) : Outcome := .next (s.takeEvent (.pulseEnd l))

/-- The row WAVE_HIGH_END (R114). -/
def execWaveHighEnd (l : Line) (s : State) : Outcome := .next (s.takeEvent (.waveHighEnd l))

/-- The row WAVE_CYCLE_END (R114). -/
def execWaveCycleEnd (l : Line) (s : State) : Outcome := .next (s.takeEvent (.waveCycleEnd l))

/-- The row WAVE_COMPLETION (R115). -/
def execWaveCompletion (l : Line) (s : State) : Outcome := .next (s.takeEvent (.waveCompletion l))

/-- The row REFP_EDGE (R24 to R29). -/
def execRefpEdge (s : State) : Outcome := .next (s.takeEvent .refpEdge)

/-- The row CROSSING (R31, R32). -/
def execCrossing (s : State) : Outcome := .next (s.takeEvent .crossing)

/-- The row EDGE_ACCEPTED (R125, R127, R135). -/
def execEdgeAccepted (i : Input) (s : State) : Outcome := .next (s.takeEvent (.edgeAccepted i))

/-- The row CAL_STEP_START (R146). -/
def execCalStepStart (s : State) : Outcome := .next (s.takeEvent .calStepStart)

/-- The row CAL_LEADING_EDGE (R146). -/
def execCalLeadingEdge (s : State) : Outcome := .next (s.takeEvent .calLeadingEdge)

/-- The row CAL_TRIAL_JUDGED (R147). -/
def execCalTrialJudged (s : State) : Outcome := .next (s.takeEvent .calTrialJudged)

/-- The row CAL_TRAILING_EDGE (R146). -/
def execCalTrailingEdge (s : State) : Outcome := .next (s.takeEvent .calTrailingEdge)

/-- The row CAL_STEP_JUDGED (R147). -/
def execCalStepJudged (s : State) : Outcome := .next (s.takeEvent .calStepJudged)

/-- The row CAL_RUN_END (R148). -/
def execCalRunEnd (s : State) : Outcome := .next (s.takeEvent .calRunEnd)

end Sys2Proof.Machine
end

