-- ==== Sys2Proof/Machine/Dispatch.lean ====
section
/-! DEFINITION. One arm for each command: its meaning. -/

namespace Sys2Proof.Machine

/-- The effect of a command on everything but the queue. -/
def exec (i : Instr) (s : State) : Host.Outcome State Fault Refusal :=
  match i with
  | .identify p args => Sys2Proof.Machine.execIdentify p args s
  | .readStatus p args => Sys2Proof.Machine.execReadStatus p args s
  | .portReset p args => Sys2Proof.Machine.execPortReset p args s
  | .portResetTaken p => Sys2Proof.Machine.execPortResetTaken p s
  | .readTime p args => Sys2Proof.Machine.execReadTime p args s
  | .hold p args => Sys2Proof.Machine.execHold p args s
  | .loadTime p args => Sys2Proof.Machine.execLoadTime p args s
  | .run p args => Sys2Proof.Machine.execRun p args s
  | .setTrim p args => Sys2Proof.Machine.execSetTrim p args s
  | .slew p args => Sys2Proof.Machine.execSlew p args s
  | .setReference p args => Sys2Proof.Machine.execSetReference p args s
  | .readReference p args => Sys2Proof.Machine.execReadReference p args s
  | .claim p args => Sys2Proof.Machine.execClaim p args s
  | .release p args => Sys2Proof.Machine.execRelease p args s
  | .queryClaims p args => Sys2Proof.Machine.execQueryClaims p args s
  | .schedule p args => Sys2Proof.Machine.execSchedule p args s
  | .cancel p args => Sys2Proof.Machine.execCancel p args s
  | .queryEntry p args => Sys2Proof.Machine.execQueryEntry p args s
  | .listEntries p args => Sys2Proof.Machine.execListEntries p args s
  | .configureLine p args => Sys2Proof.Machine.execConfigureLine p args s
  | .readLine p args => Sys2Proof.Machine.execReadLine p args s
  | .configureInput p args => Sys2Proof.Machine.execConfigureInput p args s
  | .subscribe p args => Sys2Proof.Machine.execSubscribe p args s
  | .readCaptures p args => Sys2Proof.Machine.execReadCaptures p args s
  | .readCounters p args => Sys2Proof.Machine.execReadCounters p args s
  | .clearCounter p args => Sys2Proof.Machine.execClearCounter p args s
  | .calibrate p args => Sys2Proof.Machine.execCalibrate p args s
  | .readCalibration p args => Sys2Proof.Machine.execReadCalibration p args s
  | .takeNotices p args => Sys2Proof.Machine.execTakeNotices p args s
  | .setAttention p args => Sys2Proof.Machine.execSetAttention p args s
  | .badCommand p code args => Sys2Proof.Machine.execBadCommand p code args s
  | .badFrame p code args check => Sys2Proof.Machine.execBadFrame p code args check s
  | .pncsFall p => Sys2Proof.Machine.execPncsFall p s
  | .pncsRise p clocked => Sys2Proof.Machine.execPncsRise p clocked s
  | .argumentLengthOver24 p code length => Sys2Proof.Machine.execArgumentLengthOver24 p code length s
  | .pnrstFall p => Sys2Proof.Machine.execPnrstFall p s
  | .pnrstRise p => Sys2Proof.Machine.execPnrstRise p s
  | .deviceReset cause => Sys2Proof.Machine.execDeviceReset cause s
  | .nrstRise => Sys2Proof.Machine.execNrstRise s
  | .retainedReset => Sys2Proof.Machine.execRetainedReset s
  | .mainSupplyLoss => Sys2Proof.Machine.execMainSupplyLoss s
  | .vddrLoss => Sys2Proof.Machine.execVddrLoss s
  | .prescalerTick samples order => Sys2Proof.Machine.execPrescalerTick samples order s
  | .slewDone => Sys2Proof.Machine.execSlewDone s
  | .windowEnd => Sys2Proof.Machine.execWindowEnd s
  | .pulseEnd l => Sys2Proof.Machine.execPulseEnd l s
  | .waveHighEnd l => Sys2Proof.Machine.execWaveHighEnd l s
  | .waveCycleEnd l => Sys2Proof.Machine.execWaveCycleEnd l s
  | .waveCompletion l => Sys2Proof.Machine.execWaveCompletion l s
  | .refpEdge => Sys2Proof.Machine.execRefpEdge s
  | .crossing => Sys2Proof.Machine.execCrossing s
  | .edgeAccepted c => Sys2Proof.Machine.execEdgeAccepted c s
  | .calStepStart => Sys2Proof.Machine.execCalStepStart s
  | .calLeadingEdge => Sys2Proof.Machine.execCalLeadingEdge s
  | .calTrialJudged => Sys2Proof.Machine.execCalTrialJudged s
  | .calTrailingEdge => Sys2Proof.Machine.execCalTrailingEdge s
  | .calStepJudged => Sys2Proof.Machine.execCalStepJudged s
  | .calRunEnd => Sys2Proof.Machine.execCalRunEnd s
  | .lastResponseByteSent p => Sys2Proof.Machine.execLastResponseByteSent p s

end Sys2Proof.Machine
end

