-- ==== Sys2Proof/Safety.lean ====
section
/-! DEFINITION. What must stay true of the part: the invariants the spec states about the claim records, the queues, the
log, the Action Table, the timebase with its reference and the engine, and which commands are steps that a tick makes
due. -/

namespace Sys2Proof.Safety

open Sys2Proof.Machine

/-! ### Commands and due steps (log 1) -/

/-- The step that a row stands for when the row is a step that a tick, or the end of a response, makes due. -/
def eventOf : Instr → Option Event
  | .slewDone => some .slewDone
  | .windowEnd => some .windowEnd
  | .crossing => some .crossing
  | .pulseEnd l => some (.pulseEnd l)
  | .waveHighEnd l => some (.waveHighEnd l)
  | .waveCycleEnd l => some (.waveCycleEnd l)
  | .waveCompletion l => some (.waveCompletion l)
  | .calStepStart => some .calStepStart
  | .calLeadingEdge => some .calLeadingEdge
  | .calTrialJudged => some .calTrialJudged
  | .calTrailingEdge => some .calTrailingEdge
  | .calStepJudged => some .calStepJudged
  | .calRunEnd => some .calRunEnd
  | .edgeAccepted i => some (.edgeAccepted i)
  | .refpEdge => some .refpEdge
  | .portResetTaken p => some (.portResetTaken p)
  | _ => none

/-- The row takes every due step before its own effect: every row but the due steps themselves, PRESCALER_TICK (which may
leave a REFP edge for after its count) and PNRST_FALL (which takes over a due reset of its own port). -/
def settlesFirst : Instr → Bool
  | .prescalerTick _ _ => false
  | .pnrstFall _ => false
  | c => (eventOf c).isNone

/-! ### The table of 11.4 and the order of checks -/

/-- The table of 11.4: command code, argument length, and the row that a good frame with that code is. -/
def frames : List (Byte × Nat × (Port → List Byte → Instr)) :=
  [(0x01, 0, .identify), (0x02, 1, .readStatus), (0x03, 0, .portReset), (0x10, 0, .readTime), (0x11, 0, .hold),
   (0x12, 7, .loadTime), (0x13, 0, .run), (0x14, 2, .setTrim), (0x15, 3, .slew), (0x18, 7, .setReference),
   (0x19, 0, .readReference), (0x20, 2, .claim), (0x21, 1, .release), (0x22, 0, .queryClaims),
   (0x30, 22, .schedule), (0x31, 2, .cancel), (0x32, 2, .queryEntry), (0x33, 0, .listEntries),
   (0x40, 11, .configureLine), (0x41, 1, .readLine), (0x50, 3, .configureInput), (0x51, 2, .subscribe),
   (0x52, 1, .readCaptures), (0x53, 0, .readCounters), (0x54, 1, .clearCounter), (0x60, 2, .calibrate),
   (0x61, 1, .readCalibration), (0x70, 1, .takeNotices), (0x71, 1, .setAttention)]

/-- The first check of a list that fails gives the status (R6, R36, R67, R119, R128, R144). -/
def firstFailing : List (Bool × Status) → Option Status
  | [] => none
  | (fails, st) :: rest => if fails then some st else firstFailing rest

/-- The checks of a command that needs TIME, in the order of R6 and R36. -/
def timeChecks (t : State) (p : Port) (args : List Byte) : Instr → List (Bool × Status)
  | .hold _ _ => [(!t.holds p 16, .notHolder), (t.timebase != .running, .state)]
  | .loadTime _ _ =>
    [(decide (2 ^ 20 ≤ field args 4 3), .badArg), (!t.holds p 16, .notHolder), (t.timebase == .running, .state)]
  | .run _ _ => [(!t.holds p 16, .notHolder), (t.timebase != .held, .state)]
  | .setTrim _ _ =>
    [(decide (signedField args 0 2 < -1024 ∨ 1023 < signedField args 0 2), .badArg), (!t.holds p 16, .notHolder),
     (t.rdu.autoTrim, .conflict)]
  | .slew _ _ =>
    [(decide (signedField args 0 3 = 0 ∨ signedField args 0 3 < -524288 ∨ 524287 < signedField args 0 3), .badArg),
     (!t.holds p 16, .notHolder), (t.timebase != .running, .state), (t.rdu.state != .off, .conflict),
     (t.slew != 0, .busy)]
  | .setReference _ _ =>
    [(decide (4 ≤ arg args 0 ∨ field args 1 3 < 16 ∨ 524287 < field args 1 3 ∨ field args 4 3 < 16
        ∨ 524287 < field args 4 3 ∨ field args 1 3 < field args 4 3), .badArg),
     (!t.holds p 16, .notHolder), ((arg args 0).testBit 0 && t.slew != 0, .conflict)]
  | _ => []

/-- The conditions under which SCHEDULE is refused with BAD_ARG, one disjunct for each of R68. -/
def scheduleArgsBad (args : List Byte) : Prop :=
  let kind := arg args 0
  let options := arg args 2
  let armed := options.testBit 0 = true
  let repeats := options.testBit 4 = true
  6 < kind
    ∨ (kind ≠ 6 ∧ 7 < arg args 1)
    ∨ (kind = 6 ∧ arg args 1 ≠ 0)
    ∨ options / 4 % 4 = 3
    ∨ 64 ≤ options
    ∨ (options.testBit 5 = true ∧ ¬armed)
    ∨ (kind = 3 ∧ (field args 11 3 = 0 ∨ 1048576 < field args 11 3))
    ∨ (kind ≠ 3 ∧ field args 11 3 ≠ 0)
    ∨ (repeats ∧ (field args 14 4 < 16 ∨ 1073741824 < field args 14 4))
    ∨ (¬repeats ∧ (field args 14 4 ≠ 0 ∨ field args 18 2 ≠ 0))
    ∨ (¬armed ∧ 2 ^ 20 ≤ field args 8 3)
    ∨ (¬armed ∧ arg args 3 ≠ 0)
    ∨ (armed ∧ 7 < arg args 3)
    ∨ (armed ∧ field args 7 4 ≠ 0)

/-- The entry that good SCHEDULE arguments describe, field by field (R61 to R64, 11.7.3). -/
def DescribedBy (e : Entry) (p : Port) (args : List Byte) : Prop :=
  let options := arg args 2
  e.owner = p
    ∧ (match arg args 0, e.job with
      | 0, .act l .set => l.val = arg args 1
      | 1, .act l .clear => l.val = arg args 1
      | 2, .act l .toggle => l.val = arg args 1
      | 3, .act l (.pulse w) => l.val = arg args 1 ∧ w = field args 11 3
      | 4, .act l .waveStart => l.val = arg args 1
      | 5, .act l .waveStop => l.val = arg args 1
      | 6, .mark => True
      | _, _ => False)
    ∧ (if options.testBit 0 then
        e.due = none ∧ ∃ i : Input, i.val = arg args 3
          ∧ e.form = .armed i (BitVec.ofNat 24 (field args 4 3)) (options.testBit 5)
       else e.form = .timed ∧ e.due = some (BitVec.ofNat 52 (field args 4 4 * 2 ^ 20 + field args 8 3)))
    ∧ (let count : Count := if field args 18 2 = 0 then .unlimited else .finite (field args 18 2)
       if options.testBit 4 then
         e.series = some { period := field args 14 4, initial := count } ∧ e.remaining = count
       else e.series = none ∧ e.remaining = .finite 1)
    ∧ e.late = (if options.testBit 1 then .fire else .drop)
    ∧ e.notify = (match options / 4 % 4 with
        | 0 => .never
        | 1 => .last
        | _ => .all)
    ∧ e.tag = BitVec.ofNat 16 (field args 20 2)

/-- A TIME_CHANGED or REF_STATE notice: no Handle, no Tag (R11, R38, R155). -/
def broadcastNotice (kind : NoticeKind) (time : TimeValue) (code : BitVec 24) : Notice :=
  { kind := kind, handle := none, tag := none, time := time, detail := code }

/-! ### Resets -/

/-- Every item of the main domain at the value the spec gives it for device reset, the ports' pins apart (R22, R39, R41,
R84, R123, R142, R154, R163, R173). -/
def MainDefaults (u : State) : Prop :=
  u.slew = 0
    ∧ (u.rdu.state = .off ∧ u.rdu.enable = false ∧ u.rdu.wide = 32768 ∧ u.rdu.narrow = 1024 ∧ u.rdu.autoTrim = false
      ∧ u.rdu.lastOffset = 0 ∧ u.rdu.sum = 0 ∧ u.rdu.lastSum = 0 ∧ u.rdu.realignments = 0 ∧ u.rdu.misses = 0
      ∧ u.rdu.strays = 0 ∧ u.rdu.crossingDue = false ∧ u.rdu.credit = false ∧ u.rdu.refpFresh = true)
    ∧ (∀ r : Resource, u.claims[r].holder = none ∧ u.claims[r].waiters = [])
    ∧ (∀ k : Slot, u.slots[k] = none ∧ u.gens[k] = 0) ∧ u.dueOrder = []
    ∧ (∀ l : Line, u.lines[l].idle = false ∧ u.lines[l].level = false ∧ u.lines[l].activity = .steady
      ∧ u.lines[l].fineDelay = 0 ∧ u.lines[l].wavePeriod = 1024 ∧ u.lines[l].waveHigh = 512
      ∧ u.lines[l].waveCycles = 0 ∧ u.lines[l].waveDone = false ∧ u.lines[l].pin = false)
    ∧ (∀ i : Input, u.inputs[i].edgeSelect = .none ∧ u.inputs[i].filter = .one ∧ u.inputs[i].candidate = none
      ∧ u.inputs[i].counter = 0 ∧ u.inputs[i].fresh = true)
    ∧ u.log = [] ∧ u.nextSeq = 0 ∧ u.marker = false ∧ u.calRun = none
    ∧ (∀ l : Line, u.results[l].outcome = .none ∧ u.results[l].reason = none ∧ u.results[l].passMask = 0
      ∧ u.results[l].lower = none ∧ u.results[l].upper = none ∧ u.results[l].input = none)
    ∧ ∀ p : Port, u.ports[p].queue = [] ∧ u.ports[p].notice = false ∧ u.ports[p].capture = false
      ∧ u.ports[p].loss = false ∧ u.ports[p].mask = 0 ∧ u.ports[p].lostNotices = 0 ∧ u.ports[p].cursor = 0
      ∧ u.ports[p].subscription = 0 ∧ u.ports[p].lostCaptures = 0 ∧ u.ports[p].rx = .closed
      ∧ u.ports[p].frameErrors = 0 ∧ u.ports[p].inReset = u.ports[p].rstLow

/-- The pins PnCS and PnRST and the queue of commands stay (R171, R173). -/
def PinsStay (s u : State) : Prop :=
  (∀ p : Port, u.ports[p].csLow = s.ports[p].csLow ∧ u.ports[p].rstLow = s.ports[p].rstLow) ∧ u.pending = s.pending

/-- The retained domain stays (R22). -/
def RetainedStays (s u : State) : Prop :=
  u.prescaler = s.prescaler ∧ u.time = s.time ∧ u.timebase = s.timebase ∧ u.position = s.position ∧ u.trim = s.trim
    ∧ u.windowTrim = s.windowTrim

/-- The retained domain after a retained reset (R21). -/
def RetainedCleared (u : State) : Prop :=
  u.prescaler = 0 ∧ u.time = 0 ∧ u.timebase = .unset ∧ u.position = 0 ∧ u.trim = 0 ∧ u.windowTrim = 0

/-- What a port reset of port p leaves of the port's own: no claim, no place in a waiter list, no entry, no run, an empty
queue, clear flags, mask and subscription, zero counts, no transaction, a cursor at the next Seq (R172). -/
def PortCleared (p : Port) (u : State) : Prop :=
  (∀ r : Resource, u.claims[r].holder ≠ some p ∧ p ∉ u.claims[r].waiters)
    ∧ (∀ (k : Slot) (e : Entry), u.slots[k] = some e → e.owner ≠ p)
    ∧ (∀ c, u.calRun = some c → c.requester ≠ p)
    ∧ (let c := u.ports[p]
       c.queue = [] ∧ c.notice = false ∧ c.capture = false ∧ c.loss = false ∧ c.mask = 0 ∧ c.lostNotices = 0
         ∧ c.cursor = u.nextSeq ∧ c.subscription = 0 ∧ c.lostCaptures = 0 ∧ c.rx = .closed ∧ c.response = []
         ∧ c.frameErrors = 0 ∧ c.resetPending = false ∧ c.inReset = c.rstLow)

/-- A queue that is offered a notice: nothing in reset, a loss when it is full, otherwise the notice at the back
(R157 to R159). -/
def offered (c : Client) (n : Notice) : Client :=
  if c.inReset = true then c
  else if c.queue.length < 16 then { c with queue := c.queue ++ [n], notice := true }
  else { c with loss := true, lostNotices := if c.lostNotices = 65535 then 65535 else c.lostNotices + 1 }

/-- The record of an aborted run (R150). -/
def abortedRecord (c : CalRun) (reason : AbortReason) : CalResult :=
  { outcome := .aborted, reason := some reason, passMask := c.passMask, lower := lowestStep c.passMask
    upper := highestStep c.passMask, input := some c.input }

/-- The port reset of p passes every resource that p holds to its first waiter, or frees it, and takes p off every waiter
list (R53, R54). -/
def ResourcesPassedOn (p : Port) (s u : State) : Prop :=
  ∀ r : Resource, u.claims[r] =
    (if s.claims[r].holder = some p then
      (match s.claims[r].waiters with
        | [] => { holder := none, waiters := [] }
        | w :: rest => { holder := some w, waiters := rest })
     else { holder := s.claims[r].holder, waiters := s.claims[r].waiters.filter fun w => w != p })

/-- The entries of p leave, each with its generation incremented; every other entry, and the due order of the others, stay
(R82, R83). -/
def EntriesTaken (p : Port) (s u : State) : Prop :=
  (∀ k : Slot,
    ((∃ e, s.slots[k] = some e ∧ e.owner = p) → u.slots[k] = none ∧ u.gens[k] = s.gens[k] + 1)
    ∧ ((∀ e, s.slots[k] = some e → e.owner ≠ p) → u.slots[k] = s.slots[k] ∧ u.gens[k] = s.gens[k]))
  ∧ u.dueOrder = s.dueOrder.filter fun k => !(s.slots[k].any fun e => e.owner == p)

/-- A run of p is aborted with reason PORT_RESET and no CAL_DONE, and any other run goes on; the lines that p held rest at
their idle levels, and no other line changes; every other port changes by the GRANTED notices of the resources passed to it
alone, in ascending resource number (R47, R48, R53, R150, R172). -/
def RunsLinesAndGrants (p : Port) (s u : State) : Prop :=
  (∀ c, s.calRun = some c → c.requester = p →
    u.calRun = none ∧ u.results = upd s.results c.line fun _ => abortedRecord c .portReset)
  ∧ ((∀ c, s.calRun = some c → c.requester ≠ p) → u.calRun = s.calRun ∧ u.results = s.results)
  ∧ (∀ l : Line,
    (s.claims[lineResource l].holder ≠ some p → u.lines[l] = s.lines[l])
    ∧ (s.claims[lineResource l].holder = some p →
      u.lines[l] = { s.lines[l] with
        level := s.lines[l].idle
        activity := .steady
        fineDelay := match s.calRun with
          | some c => if c.line = l then c.savedDelay else s.lines[l].fineDelay
          | none => s.lines[l].fineDelay }))
  ∧ (∀ i : Input, u.inputs[i] = { s.inputs[i] with
      candidate := match s.calRun with
        | some c => if c.requester = p ∧ c.input = i then none else s.inputs[i].candidate
        | none => s.inputs[i].candidate })
  ∧ ∀ q : Port, q ≠ p → u.ports[q] = (List.finRange 17).foldl (fun c r =>
      if s.claims[r].holder = some p ∧ s.claims[r].waiters.head? = some q then
        offered c (broadcastNotice .granted s.time (BitVec.ofNat 24 r.val))
      else c) s.ports[q]

/-- What a port reset of p does to the rest of the part, where the run state agrees with the claims: the resources of p are
passed on, its entries leave, its run, its lines and the grants are as the cascades and grants have them, and everything
else stays: supplies, TBU, RDU, log, configurations, counters, results (R172). -/
def PortResetKeeps (p : Port) (s u : State) : Prop :=
  (u.vddm = s.vddm ∧ u.vddr = s.vddr ∧ u.nrstLow = s.nrstLow ∧ u.pending = s.pending ∧ u.tickTime = s.tickTime)
    ∧ RetainedStays s u ∧ u.slew = s.slew ∧ u.rdu = s.rdu ∧ u.log = s.log ∧ u.nextSeq = s.nextSeq ∧ u.marker = s.marker
    ∧ u.ports[p].csLow = s.ports[p].csLow
    ∧ ResourcesPassedOn p s u ∧ EntriesTaken p s u ∧ RunsLinesAndGrants p s u

/-! ### Invariants -/

/-- Each queue holds at most 16 notices, and NOTICE is set exactly while the queue is not empty (R157, R161). -/
def NoticesOk (s : State) : Prop :=
  ∀ p : Port, s.ports[p].queue.length ≤ 16 ∧ (s.ports[p].notice = true ↔ s.ports[p].queue ≠ [])

/-- A waiter list holds at most three ports, none twice and never the holder, and a free resource has no waiter
(R40, R46). -/
def ClaimsOk (s : State) : Prop :=
  ∀ r : Resource, s.claims[r].waiters.length ≤ 3 ∧ s.claims[r].waiters.Nodup
    ∧ (∀ p, s.claims[r].holder = some p → p ∉ s.claims[r].waiters)
    ∧ (s.claims[r].holder = none → s.claims[r].waiters = [])

/-- The log holds at most 128 records with consecutive Seqs up to the next Seq, and every cursor lies between the oldest
record and the next Seq (R133, R137). -/
def LogOk (s : State) : Prop :=
  s.log.length ≤ 128
    ∧ (∀ (k : Nat) (h : k < s.log.length), s.log[k].seq = s.nextSeq - BitVec.ofNat 32 (s.log.length - k))
    ∧ ∀ p : Port, (s.nextSeq - s.ports[p].cursor).toNat ≤ s.log.length

/-- The trim setting, the window trim and the slew remainder lie in their ranges, a slew is pending only while RUNNING with
the reference OFF, the reference is active only while RUNNING and enabled, the windows are in order, and the consecutive
misses fit the reference state (R13, R16, R25, R32, R36). -/
def DisciplineOk (s : State) : Prop :=
  (-1024 ≤ s.trim ∧ s.trim ≤ 1023) ∧ (-1024 ≤ s.windowTrim ∧ s.windowTrim ≤ 1023)
    ∧ (-524288 ≤ s.slew ∧ s.slew ≤ 524287)
    ∧ (s.slew ≠ 0 → s.timebase = .running ∧ s.rdu.state = .off)
    ∧ (s.rdu.state ≠ .off → s.timebase = .running ∧ s.rdu.enable = true)
    ∧ (16 ≤ s.rdu.narrow ∧ s.rdu.narrow ≤ s.rdu.wide ∧ s.rdu.wide ≤ 524287)
    ∧ s.rdu.misses ≤ 4 ∧ (s.rdu.state = .locked → s.rdu.misses = 0)
    ∧ (s.rdu.state = .holdover → 1 ≤ s.rdu.misses ∧ s.rdu.misses ≤ 3)

/-- The due order holds exactly the PENDING entries, each once, earliest Due first (R64, R65). -/
def DueOrderOk (s : State) : Prop :=
  s.dueOrder.Nodup ∧ (∀ k : Slot, k ∈ s.dueOrder ↔ ∃ e, s.slots[k] = some e ∧ e.due.isSome = true)
    ∧ s.dueOrder.Pairwise fun j k => s.dueAt j ≤ s.dueAt k

/-- A count is UNLIMITED or lies in 1 to 65,535 (R61). -/
def CountOk (c : Count) : Prop := ∀ n, c = .finite n → 1 ≤ n ∧ n ≤ 65535

/-- The fields of an entry lie in the ranges of R61: a timed form always has a Due (R64), and an entry without Repeat has
Remaining 1 (R63). -/
def EntryOk (e : Entry) : Prop :=
  (e.form = .timed → e.due ≠ none)
    ∧ (∀ l w, e.job = .act l (.pulse w) → 1 ≤ w ∧ w ≤ 1048576)
    ∧ (∀ r, e.series = some r → 16 ≤ r.period ∧ r.period ≤ 1073741824 ∧ CountOk r.initial)
    ∧ CountOk e.remaining ∧ (e.series = none → e.remaining = .finite 1)

/-- The due order is right, every entry's fields are in range, no port owns more than 24 entries, and the table is empty
while the timebase is UNSET (R57, R61, R65, R69). -/
def TableOk (s : State) : Prop :=
  DueOrderOk s ∧ (∀ (k : Slot) (e : Entry), s.slots[k] = some e → EntryOk e) ∧ (∀ p : Port, s.entryCount p ≤ 24)
    ∧ (s.timebase = .unset → ∀ k : Slot, s.slots[k] = none)

/-- Every entry whose kind is not MARK is owned by the port that holds the claim of its line (R49). -/
def OwnersHold (s : State) : Prop :=
  ∀ (k : Slot) (e : Entry) (l : Line) (a : LineAction), s.slots[k] = some e → e.job = .act l a →
    s.claims[lineResource l].holder = some e.owner

/-- While the engine runs the timebase is RUNNING, the requester holds the line and the loop input, and that line is
CALIBRATING; a line is CALIBRATING only while the engine runs on it (R107, R143). -/
def CalibrationOk (s : State) : Prop :=
  (∀ c, s.calRun = some c → s.timebase = .running ∧ s.claims[lineResource c.line].holder = some c.requester
      ∧ s.claims[inputResource c.input].holder = some c.requester ∧ s.lines[c.line].activity = .calibrating)
    ∧ ∀ l : Line, s.lines[l].activity = .calibrating → ∃ c, s.calRun = some c ∧ c.line = l

end Sys2Proof.Safety
end

