-- ==== Sys2Proof/Certificates/Slice0/Obligations.lean ====
section
/-! DEFINITION. The statements about the OT416 for the provers. In each, s.settle is the state after the steps that are
due (log 1); with none due it is s. -/

section

open Sys2Proof Sys2Proof.Machine Sys2Proof.Safety

/-! ### Steps and the queue -/

/-- A step takes the command at the front of the queue and carries it out with the rest of the queue. -/
def Obligations.StepTakesFront : Prop :=
  ∀ (c : Instr) (rest : List Instr) (s : State), s.pending = c :: rest → step s = exec c { s with pending := rest }

/-- Every command has a next state, whatever its operands and in every state: the spec names no stop. -/
def Obligations.EveryCommandCompletes : Prop := ∀ (c : Instr) (s : State), ∃ t, exec c s = .next t

/-- How due steps and the queue are handled (the model's choices, logs 1, 2 and 3): with an empty queue the part idles; every
row but a due step, PRESCALER_TICK and PNRST_FALL takes the due steps first, after which none is due; the row of a step that
is not due changes nothing. And the orders the spec fixes among due steps: the crossing before the REFP edge (R31), lower
inputs before higher ones (R136), the judging of step 15 before the end of the run (R148), and, once it is judged, the end of
the run before any step that could abort it (R151). -/
def Obligations.DueStepsComeFirst : Prop :=
  (∀ s : State, s.pending = [] → step s = .next s)
    ∧ (∀ (c : Instr) (s : State), settlesFirst c = true → exec c s = exec c s.settle ∧ s.settle.work = [])
    ∧ (∀ (c : Instr) (e : Event) (s : State), eventOf c = some e → e ∉ s.work → exec c s = .next s)
    ∧ (∀ s t : State, Event.refpEdge ∈ s.work → (Event.calRunEnd ∈ s.work → Event.calStepJudged ∈ s.work) →
        exec .crossing s = .next t → exec .refpEdge s = exec .refpEdge t)
    ∧ (∀ (i j : Input) (s t : State), Event.edgeAccepted i ∈ s.work → j < i →
        (∀ h : Input, h < j → Event.edgeAccepted h ∉ s.work) →
        exec (.edgeAccepted j) s = .next t → exec (.edgeAccepted i) s = exec (.edgeAccepted i) t)
    ∧ (∀ s t : State, Event.calRunEnd ∈ s.work →
        exec .calStepJudged s = .next t → exec .calRunEnd s = exec .calRunEnd t)
    ∧ ∀ s t : State, Event.calRunEnd ∈ s.work → Event.calStepJudged ∉ s.work → exec .calRunEnd s = .next t →
        (Event.refpEdge ∈ s.work → exec .refpEdge s = exec .refpEdge t)
        ∧ ∀ i : Input, Event.edgeAccepted i ∈ s.work → exec (.edgeAccepted i) s = exec (.edgeAccepted i) t

/-! ### Resets and supplies -/

/-- The part after reset: the retained domain cleared (R21), every item of the main domain at its default, every port out
of reset. That every port is out of reset is the model's choice of PnRST high at reset (log 5). -/
def Obligations.ResetState : Prop :=
  RetainedCleared State.reset ∧ MainDefaults State.reset ∧ ∀ p : Port, State.reset.ports[p].inReset = false

/-- Device reset, by NRST or by the return of the main supply: the retained domain stays and the main domain takes
its defaults; at the loss of the main supply the retained domain stays (R20, R22). What the lost main domain holds is not
stated. That DEVICE_RESET acts in every state, also where its cause already stands, is the model's choice (log 17). -/
def Obligations.DeviceResetKeepsRetained : Prop :=
  ∀ s : State,
    (∃ u, exec (.deviceReset .nrstLow) s = .next u ∧ u.nrstLow = true ∧ u.vddm = s.settle.vddm
      ∧ RetainedStays s.settle u ∧ MainDefaults u ∧ PinsStay s.settle u)
    ∧ (∃ u, exec (.deviceReset .mainReturn) s = .next u ∧ u.vddm = true ∧ u.nrstLow = s.settle.nrstLow
      ∧ RetainedStays s.settle u ∧ MainDefaults u ∧ PinsStay s.settle u)
    ∧ ∃ u, exec .mainSupplyLoss s = .next u ∧ u.vddm = false ∧ RetainedStays s.settle u ∧ PinsStay s.settle u

/-- Retained reset clears the retained domain and includes a device reset (R20, R21); without VDDR the part does
not work, and the lost timebase state is held UNSET, which is the model's choice (log 10). That RETAINED_RESET acts in every
state, also where VDDR is present, is the model's choice (log 17). -/
def Obligations.RetainedResetClears : Prop :=
  ∀ s : State,
    (∃ u, exec .retainedReset s = .next u ∧ u.vddr = true ∧ RetainedCleared u ∧ MainDefaults u ∧ PinsStay s.settle u)
    ∧ ∃ u, exec .vddrLoss s = .next u ∧ u.vddr = false ∧ u.active = false ∧ u.timebase = .unset
      ∧ PinsStay s.settle u

/-- The end of a reset: NRST rising lifts device reset, PnRST rising takes the port out of reset; nothing else changes
(R159, R172, R173). That the rise of a pin that is high already changes nothing is the model's choice (log 2). -/
def Obligations.ResetsEnd : Prop :=
  ∀ (p : Port) (s : State),
    exec .nrstRise s = .next { s.settle with nrstLow := false }
    ∧ (s.settle.ports[p].rstLow = true →
        exec (.pnrstRise p) s = .next (s.settle.updPort p fun c => { c with rstLow := false, inReset := false }))
    ∧ (s.settle.ports[p].rstLow = false → exec (.pnrstRise p) s = .next s.settle)

/-- PnRST falling, and a due reset of a PORT RESET command, reset the port: its own items are cleared, its resources pass to
the first waiters with their GRANTED notices in ascending resource number, its entries leave, its run is aborted, its lines
rest at their idle levels, and the rest of the part stays (R47, R53, R54, R82, R83, R171, R172). With PnRST low the port is in
reset. PnRST falling takes the place of a due reset of its own port (log 18); in a part without power or in device reset it
only puts the port in reset, and PnRST that is low already does not fall (log 2). That no PORT RESET is left pending is read
from R172 (log 26). -/
def Obligations.PortResetClearsPort : Prop :=
  ∀ (p : Port) (s : State),
    (let t := (s.dropWork fun e => e == .portResetTaken p).settle
     s.ports[p].rstLow = false →
      (ClaimsOk t → CalibrationOk t → t.active = true →
        ∃ u, exec (.pnrstFall p) s = .next u ∧ PortCleared p u ∧ PortResetKeeps p t u ∧ u.ports[p].rstLow = true
          ∧ u.work = [])
      ∧ (t.active = false →
        exec (.pnrstFall p) s = .next (t.updPort p fun c => { c with rstLow := true, inReset := true })))
    ∧ (s.ports[p].rstLow = true → exec (.pnrstFall p) s = .next s.settle)
    ∧ (ClaimsOk s → CalibrationOk s → Event.portResetTaken p ∈ s.work →
      ∃ u, exec (.portResetTaken p) s = .next u ∧ PortCleared p u ∧ PortResetKeeps p s u
        ∧ u.ports[p].rstLow = s.ports[p].rstLow ∧ u.work.Sublist (s.work.erase (.portResetTaken p)))

/-! ### Ports and frames -/

/-- IDENTIFY (R169). -/
def Obligations.IdentifyAnswers : Prop :=
  ∀ (p : Port) (s : State), s.settle.receiving p = true →
    exec (.identify p []) s
      = .next (s.settle.respond p .ok [0x0A, 0x3C, 0x04, 0x16, 0x01, BitVec.ofNat 8 p.val])

/-- READ STATUS: the report, then with the clear option the clearing of LOSS and the counts; a bad option is refused
(R170). -/
def Obligations.ReadStatusReports : Prop :=
  ∀ (p : Port) (option : Byte) (s : State), s.settle.receiving p = true →
    let t := s.settle
    let c := t.ports[p]
    let flags := bit c.notice + 2 * bit c.capture + 4 * bit c.loss
    let report : List Byte :=
      [(match t.timebase with
        | .unset => 0
        | .held => 1
        | .running => 2 : Byte),
       (match t.rdu.state with
        | .off => 0
        | .searching => 1
        | .locked => 2
        | .holdover => 3 : Byte)]
      ++ signedBytes 3 t.slew ++ signedBytes 2 t.trim
      ++ [BitVec.ofNat 8 (bit t.rdu.autoTrim + 2 * bit t.calRun.isSome), BitVec.ofNat 8 flags,
          BitVec.ofNat 8 c.mask.toNat]
      ++ bytes 2 c.lostNotices.toNat ++ bytes 2 c.lostCaptures.toNat ++ bytes 2 c.frameErrors.toNat
      ++ [BitVec.ofNat 8 (t.entryCount p),
          match t.calRun with
          | some r => BitVec.ofNat 8 r.requester.val
          | none => 0xFF]
    exec (.readStatus p [option]) s = .next (
      if option = 0 then t.respond p .ok report
      else if option = 1 then
        (t.updPort p fun c => { c with loss := false, lostNotices := 0, lostCaptures := 0, frameErrors := 0 }).respond p
          .ok report
      else t.respond p .badArg [])

/-- A transaction: PnCS falling opens it unless the port or the part is in reset; PORT RESET is answered OK and pends; the
last response byte and PnCS rising end the response and make a pending port reset due; PnCS rising in COMMAND after a clock
edge is a frame error (R165, R167, R171). -/
def Obligations.TransactionMoves : Prop :=
  ∀ (p : Port) (clocked : Bool) (s : State),
    let t := s.settle
    let c := t.ports[p]
    (c.csLow = false → t.active = true → c.rstLow = false →
      exec (.pncsFall p) s = .next (t.updPort p fun c => { c with csLow := true, rx := .command }))
    ∧ (c.csLow = false → (t.active = false ∨ c.rstLow = true) →
      exec (.pncsFall p) s = .next (t.updPort p fun c => { c with csLow := true }))
    ∧ (t.receiving p = true →
      exec (.portReset p []) s = .next ((t.updPort p fun c => { c with resetPending := true }).respond p .ok []))
    ∧ (t.active = true → c.rx = .response →
      exec (.lastResponseByteSent p) s = .next
        { t.updPort p (fun c => { c with rx := .trailing, response := [], resetPending := false }) with
          work := if c.resetPending then [.portResetTaken p] else [] })
    ∧ (c.csLow = true →
      exec (.pncsRise p clocked) s = .next
        { t.updPort p (fun c =>
            { c with csLow := false, rx := .closed, response := [], resetPending := false
                     frameErrors := if c.rx = .command ∧ clocked = true then satInc c.frameErrors
                                    else c.frameErrors }) with
          work := if c.resetPending then [.portResetTaken p] else [] })

/-- A port that is closed, in reset, or unpowered takes no frame: nothing changes (R164, R165). -/
def Obligations.ClosedPortTakesNoFrame : Prop :=
  ∀ (p : Port) (s : State), s.settle.receiving p = false →
    (∀ row ∈ frames, ∀ args : List Byte, exec (row.2.2 p args) s = .next s.settle)
    ∧ (∀ (code : Byte) (args : List Byte), exec (.badCommand p code args) s = .next s.settle)
    ∧ (∀ (code check : Byte) (args : List Byte), exec (.badFrame p code args check) s = .next s.settle)
    ∧ ∀ code length : Byte, exec (.argumentLengthOver24 p code length) s = .next s.settle

/-- Frames that carry out no command: a wrong argument length of a command of 11.4 answers BAD_ARG, a wrong check byte
answers BAD_FRAME and is counted, an unknown code answers BAD_COMMAND, and a length over 24 moves the port to TRAILING and is
counted (R165, R166). -/
def Obligations.FramesNotCarriedOut : Prop :=
  ∀ (p : Port) (s : State), s.settle.receiving p = true →
    (∀ row ∈ frames, ∀ args : List Byte, args.length ≤ 24 → args.length ≠ row.2.1 →
      exec (row.2.2 p args) s = .next (s.settle.respond p .badArg []))
    ∧ (∀ (code : Byte) (args : List Byte) (check : Byte), args.length ≤ 24 →
      check ≠ crc8 (code :: BitVec.ofNat 8 args.length :: args) →
        exec (.badFrame p code args check) s
          = .next ((s.settle.updPort p fun c => { c with frameErrors := satInc c.frameErrors }).respond p .badFrame []))
    ∧ (∀ (code : Byte) (args : List Byte), args.length ≤ 24 → (∀ row ∈ frames, row.1 ≠ code) →
        exec (.badCommand p code args) s = .next (s.settle.respond p .badCommand []))
    ∧ ∀ code length : Byte, 24 < length.toNat →
        exec (.argumentLengthOver24 p code length) s
          = .next (s.settle.updPort p fun c => { c with rx := .trailing, frameErrors := satInc c.frameErrors })

/-- The check byte of every list of bytes, by the register of R166, and those of the frames that R166 gives as examples; the
frame that carries a response; the fifteen status codes; and the layout of fields: byte k of an n-byte field is the k-th most significant, a signed field is in two's complement, a
time value is Seconds in four bytes and Fraction in three; each field is read as it is written
(R165, R166, R168, R174). -/
def Obligations.LayoutsHold : Prop :=
  (let shift (r : Byte) : Byte := if 128 ≤ r.toNat then (r <<< 1) ^^^ 0x07 else r <<< 1
   crc8 [] = 0 ∧ ∀ (bs : List Byte) (b : Byte), crc8 (bs ++ [b]) = shift^[8] (crc8 bs ^^^ b))
    ∧ crc8 [0x10, 0x00] = 0x57 ∧ responseFrame .ok [] = [0x00, 0x00, 0x00]
    ∧ responseFrame .badFrame [] = [0x02, 0x00, 0x2A]
    ∧ [Status.ok, .queued, .badFrame, .badCommand, .badArg, .notHolder, .heldBy, .busy, .noTime, .past, .full, .quota,
        .unknownHandle, .conflict, .state].map statusCode
      = [0x00, 0x01, 0x02, 0x03, 0x04, 0x05, 0x06, 0x07, 0x08, 0x09, 0x0A, 0x0B, 0x0C, 0x0D, 0x0E]
    ∧ (∀ (st : Status) (payload : List Byte),
        responseFrame st payload
          = (statusCode st :: BitVec.ofNat 8 payload.length :: payload)
            ++ [crc8 (statusCode st :: BitVec.ofNat 8 payload.length :: payload)])
    ∧ (∀ n x : Nat, (bytes n x).length = n
        ∧ ∀ k : Nat, k < n → (bytes n x)[k]? = some (BitVec.ofNat 8 (x / 256 ^ (n - 1 - k) % 256)))
    ∧ (∀ (n : Nat) (x : Int), 0 < n →
        (0 ≤ x → x < 2 ^ (8 * n - 1) → signedBytes n x = bytes n x.toNat)
        ∧ (-(2 ^ (8 * n - 1)) ≤ x → x < 0 → signedBytes n x = bytes n (2 ^ (8 * n) + x).toNat))
    ∧ (∀ t : TimeValue, timeBytes t = bytes 4 (t.toNat / 2 ^ 20) ++ bytes 3 (t.toNat % 2 ^ 20))
    ∧ (∀ (before after : List Byte) (n x : Nat), x < 256 ^ n → field (before ++ bytes n x ++ after) before.length n = x)
    ∧ (∀ (before after : List Byte) (n : Nat) (x : Int), 0 < n → -(2 ^ (8 * n - 1)) ≤ x → x < 2 ^ (8 * n - 1) →
        signedField (before ++ signedBytes n x ++ after) before.length n = x)
    ∧ ∀ (before after : List Byte) (t : TimeValue),
        timeField (before ++ timeBytes t ++ after) before.length = t
          ∧ timeFieldOk (before ++ timeBytes t ++ after) before.length = true

/-! ### The timebase -/

/-- READ TIME (R7). -/
def Obligations.ReadTimeAnswers : Prop :=
  ∀ (p : Port) (s : State), s.settle.receiving p = true →
    exec (.readTime p []) s
      = .next (s.settle.respond p .ok
          ((match s.settle.timebase with
            | .unset => 0
            | .held => 1
            | .running => 2)
           :: (bytes 4 (s.settle.time.toNat / 2 ^ 20) ++ bytes 3 (s.settle.time.toNat % 2 ^ 20))))

/-- HOLD: HELD, the slew cancelled, the RDU OFF, a run aborted, HELD broadcast, all with the frozen value (R8). -/
def Obligations.HoldStops : Prop :=
  ∀ (p : Port) (s : State), s.settle.receiving p = true → s.settle.claims[timeResource].holder = some p →
    s.settle.timebase = .running →
      let t := s.settle
      let held := { t with timebase := .held }
      let slewed := if t.slew = 0 then held
        else State.broadcast { held with slew := 0 } (broadcastNotice .timeChanged t.time 4)
      let off := if t.rdu.state = .off then slewed
        else State.broadcast
          { slewed with rdu := { t.rdu with state := .off, crossingDue := false, credit := false } }
          (broadcastNotice .refState t.time 0)
      let aborted := off.abortCalibration .hold
      exec (.hold p []) s
        = .next ((aborted.broadcast (broadcastNotice .timeChanged t.time 0)).respond p .ok (timeBytes t.time))

/-- LOAD TIME: the value, HELD, the discontinuity marker, LOADED broadcast (R9). -/
def Obligations.LoadTimeLoads : Prop :=
  ∀ (p : Port) (v : TimeValue) (s : State), s.settle.receiving p = true →
    s.settle.claims[timeResource].holder = some p → s.settle.timebase ≠ .running →
      exec (.loadTime p (timeBytes v)) s
        = .next ((State.broadcast { s.settle with time := v, timebase := .held, marker := true }
            (broadcastNotice .timeChanged v 1)).respond p .ok [])

/-- RUN: RUNNING, SEARCHING if enabled, the discontinuity marker, RESUMED broadcast, then the firing check at the held
value (R10). -/
def Obligations.RunResumes : Prop :=
  ∀ (p : Port) (s : State), s.settle.receiving p = true → s.settle.claims[timeResource].holder = some p →
    s.settle.timebase = .held →
      let t := s.settle
      let running := { t with timebase := .running }
      let searching := if t.rdu.enable then
          State.broadcast
            { running with rdu := { t.rdu with state := .searching, crossingDue := false, credit := false } }
            (broadcastNotice .refState t.time 1)
        else running
      let resumed := State.broadcast { searching with marker := true } (broadcastNotice .timeChanged t.time 2)
      exec (.run p []) s = .next ((resumed.fireCheck false t.time).respond p .ok (timeBytes t.time))

/-- SET TRIM writes the trim setting and SLEW the slew remainder (R15, R16). -/
def Obligations.TrimAndSlewAreWritten : Prop :=
  ∀ (p : Port) (v : Int) (s : State), s.settle.receiving p = true → s.settle.claims[timeResource].holder = some p →
    (-1024 ≤ v → v ≤ 1023 → s.settle.rdu.autoTrim = false →
      exec (.setTrim p (signedBytes 2 v)) s = .next (State.respond { s.settle with trim := v } p .ok []))
    ∧ (-524288 ≤ v → v ≤ 524287 → v ≠ 0 → s.settle.timebase = .running → s.settle.rdu.state = .off →
      s.settle.slew = 0 →
        exec (.slew p (signedBytes 3 v)) s = .next (State.respond { s.settle with slew := v } p .ok []))

/-- The checks of HOLD, LOAD TIME, RUN, SET TRIM, SLEW and SET REFERENCE, in order: the first that fails gives the status,
and nothing else changes (R6, R36). -/
def Obligations.TimeChecksRefuse : Prop :=
  ∀ (p : Port) (args : List Byte) (st : Status) (s : State), s.settle.receiving p = true →
    ∀ row ∈ ([(0, .hold), (7, .loadTime), (0, .run), (2, .setTrim), (3, .slew), (7, .setReference)] :
        List (Nat × (Port → List Byte → Instr))),
      args.length = row.1 → firstFailing (timeChecks s.settle p args (row.2 p args)) = some st →
        exec (row.2 p args) s = .next (s.settle.respond p st [])

/-- A prescaler tick in a RUNNING timebase: the window trim is loaded at position 0, the step is 2, 0 or 1, the time value
takes it, the slew remainder moves one unit at a slew position, the position goes on; a timebase that is not RUNNING does
not count it (R4, R13, R14, R17). No REFP edge of the tick before waits. That the count of edges is 0 after the tick is the
model's choice (log 8, beside R1). -/
def Obligations.TickCounts : Prop :=
  ∀ (samples : TickInput) (order : TickOrder) (s : State), Event.refpEdge ∉ s.work → s.settle.active = true →
    let t := s.settle
    let p := t.position.toNat
    let w := if p = 0 then t.trim else t.windowTrim
    let trims : Prop := p % 16384 = 0 ∧ bitReverse10 (p / 16384) < w.natAbs
    let slews : Prop := p % 16 = 8 ∧ t.slew ≠ 0
    ∃ u, exec (.prescalerTick samples order) s = .next u ∧ u.prescaler = 0 ∧ u.timebase = t.timebase
      ∧ (t.timebase = .running →
          u.position = t.position + 1 ∧ u.windowTrim = w
          ∧ (trims → 0 < w → u.time = t.time + 2) ∧ (trims → w < 0 → u.time = t.time)
          ∧ (slews → 0 < t.slew → u.time = t.time + 2 ∧ u.slew = t.slew - 1)
          ∧ (slews → t.slew < 0 → u.time = t.time ∧ u.slew = t.slew + 1)
          ∧ (¬trims → ¬slews → u.time = t.time + 1) ∧ (¬slews → u.slew = t.slew))
      ∧ (t.timebase ≠ .running →
          u.time = t.time ∧ u.position = t.position ∧ u.windowTrim = t.windowTrim ∧ u.slew = t.slew)

/-- On VDDR alone, or while NRST is low, the tick reaches the counting of the TBU and nothing else (R1, R20, R22);
prescaler and tickTime are the model's (logs 8 and 20). Without VDDR no tick occurs, so the row changes nothing (read from R1,
log 24). -/
def Obligations.TickWithoutMainDomain : Prop :=
  ∀ (samples : TickInput) (order : TickOrder) (s : State), s.work = [] →
    (s.vddr = false → exec (.prescalerTick samples order) s = .next s)
    ∧ (s.vddr = true → s.active = false → s.timebase ≠ .running →
        exec (.prescalerTick samples order) s = .next { s with prescaler := 0, tickTime := s.time })
    ∧ (s.vddr = true → s.active = false → s.timebase = .running → s.slew = 0 →
        let p := s.position.toNat
        let w := if p = 0 then s.trim else s.windowTrim
        let now := if p % 16384 = 0 ∧ bitReverse10 (p / 16384) < w.natAbs then
            (if 0 < w then s.time + 2 else s.time) else s.time + 1
        exec (.prescalerTick samples order) s
          = .next { s with prescaler := 0, time := now, position := s.position + 1, windowTrim := w, tickTime := now })

/-- Bit reversal reads the ten digits in the opposite order, so that a window trim of magnitude w adjusts exactly w of the
1,024 segments (R14). -/
def Obligations.TrimSpreads : Prop :=
  (∀ j k : Nat, j < 1024 → k < 10 → (bitReverse10 j).testBit k = j.testBit (9 - k))
    ∧ (∀ j : Nat, bitReverse10 j < 1024)
    ∧ ∀ w : Nat, w ≤ 1024 → ((List.range 1024).filter fun j => decide (bitReverse10 j < w)).length = w

/-- SLEW_DONE broadcasts its notice with the time value of the tick; WINDOW_END publishes the sum and writes the clamped
trim while LOCKED with auto-trim (R17, R34, R35). -/
def Obligations.SlewAndWindowEnd : Prop :=
  ∀ s : State,
    (Event.slewDone ∈ s.work →
      exec .slewDone s = .next
        ((s.dropWork fun d => d == .slewDone).broadcast (broadcastNotice .timeChanged s.tickTime 3)))
    ∧ (Event.windowEnd ∈ s.work →
      exec .windowEnd s = .next
        { s.dropWork fun d => d == .windowEnd with
          rdu := { s.rdu with lastSum := s.rdu.sum, sum := 0 }
          trim := if s.rdu.autoTrim = true ∧ s.rdu.state = .locked then
              max (-1024) (min 1023 (s.trim - s.rdu.sum)) else s.trim })

/-! ### The reference -/

/-- SET REFERENCE writes its four settings, then moves the reference to OFF or SEARCHING with its notice (R37). -/
def Obligations.SetReferenceWrites : Prop :=
  ∀ (p : Port) (enable autoTrim : Bool) (wide narrow : Nat) (s : State), s.settle.receiving p = true →
    s.settle.claims[timeResource].holder = some p → 16 ≤ narrow → narrow ≤ wide → wide ≤ 524287 →
    (enable = true → s.settle.slew = 0) →
      let t := s.settle
      let r := { t.rdu with enable := enable, autoTrim := autoTrim, wide := wide, narrow := narrow }
      let u :=
        if enable = false ∧ t.rdu.state ≠ .off then
          State.broadcast { t with rdu := { r with state := .off, crossingDue := false, credit := false } }
            (broadcastNotice .refState t.time 0)
        else if enable = true ∧ t.timebase = .running ∧ t.rdu.state = .off then
          State.broadcast { t with rdu := { r with state := .searching, crossingDue := false, credit := false } }
            (broadcastNotice .refState t.time 1)
        else { t with rdu := r }
      exec (.setReference p ([BitVec.ofNat 8 (bit enable + 2 * bit autoTrim)] ++ bytes 3 wide ++ bytes 3 narrow)) s
        = .next (u.respond p .ok [])

/-- The offset of an edge time (R24). -/
def Obligations.OffsetIsNearest : Prop :=
  ∀ t : TimeValue,
    (t.toNat % 2 ^ 20 < 524288 → offsetOf t = (t.toNat % 2 ^ 20 : Nat))
    ∧ (524288 ≤ t.toNat % 2 ^ 20 → offsetOf t = (t.toNat % 2 ^ 20 : Nat) - (1048576 : Int))
    ∧ -524288 ≤ offsetOf t ∧ offsetOf t ≤ 524287

/-- A due REFP edge: inside the window in force it realigns (in SEARCHING within W it acquires LOCKED with its two notices,
in LOCKED and HOLDOVER within N it adds its offset to the sum, and HOLDOVER becomes LOCKED with its notice), and a forward
realignment then makes a firing check; outside it is a stray; OFF ignores every edge (R23, R26 to R29). -/
def Obligations.RefpEdgeHandled : Prop :=
  ∀ s : State, Event.refpEdge ∈ s.work → Event.crossing ∉ s.work →
    (Event.calRunEnd ∈ s.work → Event.calStepJudged ∈ s.work) →
    let off := offsetOf s.rdu.edgeTime
    let w := s.dropWork fun d => d == .refpEdge
    let now := s.time - BitVec.ofInt 52 off
    let r := { s.rdu with lastOffset := off, realignments := satInc s.rdu.realignments, misses := 0, credit := true
                          crossingDue := true, state := RefState.locked }
    let a := { w with time := now, marker := s.marker || decide (off ≠ 0) }
    let checked (u : State) := if off < 0 then u.fireCheck (decide (now.toNat < s.time.toNat)) now else u
    let summed := { r with sum := max (-2147483648) (min 2147483647 (s.rdu.sum + off)) }
    (s.rdu.state = .searching → off.natAbs ≤ s.rdu.wide →
      exec .refpEdge s = .next (checked ((State.broadcast { a with rdu := r }
        (broadcastNotice .refState now 2)).broadcast (broadcastNotice .timeChanged now 5))))
    ∧ (s.rdu.state = .locked → off.natAbs ≤ s.rdu.narrow →
      exec .refpEdge s = .next (checked { a with rdu := summed }))
    ∧ (s.rdu.state = .holdover → off.natAbs ≤ s.rdu.narrow →
      exec .refpEdge s = .next (checked (State.broadcast { a with rdu := summed } (broadcastNotice .refState now 2))))
    ∧ (s.rdu.state = .off → exec .refpEdge s = .next w)
    ∧ (s.rdu.state ≠ .off → (if s.rdu.state = .searching then s.rdu.wide else s.rdu.narrow) < off.natAbs →
      exec .refpEdge s = .next { w with rdu := { s.rdu with lastOffset := off, strays := satInc s.rdu.strays } })

/-- A due crossing: the crossing due is cleared; in LOCKED and HOLDOVER the credit is consumed, or a miss leads to HOLDOVER
and, at the fourth, to SEARCHING, each change with its notice (R31, R32). -/
def Obligations.CrossingChecksCredit : Prop :=
  ∀ s : State, Event.crossing ∈ s.work →
    let w := s.dropWork fun d => d == .crossing
    let r := { s.rdu with crossingDue := false, credit := false }
    ((s.rdu.state = .off ∨ s.rdu.state = .searching) →
      exec .crossing s = .next { w with rdu := { s.rdu with crossingDue := false } })
    ∧ ((s.rdu.state = .locked ∨ s.rdu.state = .holdover) → s.rdu.credit = true →
      exec .crossing s = .next { w with rdu := r })
    ∧ (s.rdu.state = .locked → s.rdu.credit = false →
      exec .crossing s = .next (State.broadcast
        { w with rdu := { r with state := .holdover, misses := s.rdu.misses + 1 } }
        (broadcastNotice .refState s.tickTime 3)))
    ∧ (s.rdu.state = .holdover → s.rdu.credit = false → s.rdu.misses < 3 →
      exec .crossing s = .next { w with rdu := { r with misses := s.rdu.misses + 1 } })
    ∧ (s.rdu.state = .holdover → s.rdu.credit = false → s.rdu.misses = 3 →
      exec .crossing s = .next (State.broadcast { w with rdu := { r with state := .searching, misses := 4 } }
        (broadcastNotice .refState s.tickTime 1)))

/-! ### Claims -/

/-- CLAIM: the table of R44, and BAD_ARG for a bad resource or flag byte (R43). -/
def Obligations.ClaimAnswers : Prop :=
  ∀ (p : Port) (s : State), s.settle.receiving p = true →
    (∀ a b : Byte, 16 < a.toNat ∨ 1 < b.toNat →
      exec (.claim p [a, b]) s = .next (s.settle.respond p .badArg []))
    ∧ ∀ (r : Resource) (wait : Bool),
      let t := s.settle
      let c := t.claims[r]
      exec (.claim p [BitVec.ofNat 8 r.val, if wait then 1 else 0]) s = .next (
        match c.holder with
        | none => (t.updClaim r fun c => { c with holder := some p }).respond p .ok []
        | some h =>
          if h = p then t.respond p .ok []
          else if wait = false then t.respond p .heldBy [BitVec.ofNat 8 h.val]
          else if p ∈ c.waiters then
            t.respond p .queued [BitVec.ofNat 8 h.val, BitVec.ofNat 8 (c.waiters.idxOf p + 1)]
          else (t.updClaim r fun c => { c with waiters := c.waiters ++ [p] }).respond p .queued
              [BitVec.ofNat 8 h.val, BitVec.ofNat 8 (c.waiters.length + 1)])

/-- RELEASE by the holder runs the cascade and then grants to the first waiter with a GRANTED notice or frees the
resource; RELEASE by a waiter takes it off the list; any other port is answered NOT_HOLDER (R46, R47). -/
def Obligations.ReleaseGrants : Prop :=
  ∀ (p : Port) (s : State), s.settle.receiving p = true →
    (∀ a : Byte, 16 < a.toNat → exec (.release p [a]) s = .next (s.settle.respond p .badArg []))
    ∧ ∀ r : Resource,
      let t := s.settle
      let c := t.claims[r]
      let u := t.cascade false p r
      (c.holder = some p → c.waiters = [] →
        exec (.release p [BitVec.ofNat 8 r.val]) s = .next
          ((u.updClaim r fun _ => { holder := none, waiters := [] }).respond p .ok
            [BitVec.ofNat 8 (t.cascadeCount p r), 0xFF]))
      ∧ (∀ (w : Port) (rest : List Port), c.holder = some p → c.waiters = w :: rest →
        exec (.release p [BitVec.ofNat 8 r.val]) s = .next
          (((u.updClaim r fun _ => { holder := some w, waiters := rest }).offer w
            (broadcastNotice .granted t.time (BitVec.ofNat 24 r.val))).respond p .ok
              [BitVec.ofNat 8 (t.cascadeCount p r), BitVec.ofNat 8 w.val]))
      ∧ (∀ h : Port, c.holder = some h → h ≠ p → p ∈ c.waiters →
        exec (.release p [BitVec.ofNat 8 r.val]) s = .next
          ((t.updClaim r fun c => { c with waiters := c.waiters.filter fun q => q != p }).respond p .ok
            [0, BitVec.ofNat 8 h.val]))
      ∧ (c.holder ≠ some p → p ∉ c.waiters →
        exec (.release p [BitVec.ofNat 8 r.val]) s = .next (t.respond p .notHolder []))

/-- The release cascade. Of a line: a run on it is aborted, the line rests STEADY at its idle level, the releasing port's
entries on it leave with their generations incremented, its due timer step is dropped, and every other entry with its place
in the due order, every other line and due step, and all the rest of the part stay; of a capture input: a run with it as the loop input is aborted, and nothing else changes; of TIME: nothing changes. The abort has
the reason PORT_RESET in a port reset of the run's requester, RELEASE otherwise. The count that RELEASE reports is that of the
entries removed, 0 for an input and for TIME (R46, R48 to R51, R53). -/
def Obligations.CascadeCleansLine : Prop :=
  ∀ (p : Port) (byReset : Bool) (s : State),
    let reason : AbortReason := match s.calRun with
      | some c => if byReset = true ∧ c.requester = p then .portReset else .release
      | none => .release
    (s.cascade byReset p timeResource = s ∧ s.cascadeCount p timeResource = 0)
    ∧ (∀ i : Input, s.cascadeCount p (inputResource i) = 0
        ∧ ((∀ c, s.calRun = some c → c.input ≠ i) → s.cascade byReset p (inputResource i) = s)
        ∧ ∀ c, s.calRun = some c → c.input = i → s.cascade byReset p (inputResource i) = s.abortCalibration reason)
    ∧ ∀ l : Line,
      let u := s.cascade byReset p (lineResource l)
      let aborted := if s.calRun.any (fun c => c.line == l) then s.abortCalibration reason else s
      let gone (k : Slot) : Bool := s.slots[k].any fun e => e.owner == p && (match e.job with
        | .act j _ => j == l
        | .mark => false)
      u.lines[l] = { aborted.lines[l] with level := s.lines[l].idle, activity := .steady }
        ∧ (∀ k : Line, k ≠ l → u.lines[k] = s.lines[k])
        ∧ (∀ k : Slot, (gone k = true → u.slots[k] = none ∧ u.gens[k] = s.gens[k] + 1)
          ∧ (gone k = false → u.slots[k] = s.slots[k] ∧ u.gens[k] = s.gens[k]))
        ∧ u.dueOrder = (s.dueOrder.filter fun k => !gone k)
        ∧ u.work = (s.work.filter fun e => !decide (e ∈ [.pulseEnd l, .waveHighEnd l, .waveCycleEnd l, .waveCompletion l]))
        ∧ u = { s with
            lines := u.lines, slots := u.slots, gens := u.gens, dueOrder := u.dueOrder, work := u.work
            inputs := aborted.inputs, results := aborted.results, calRun := aborted.calRun, ports := aborted.ports }
        ∧ s.cascadeCount p (lineResource l) = ((List.finRange 64).filter gone).length

/-! ### Reports -/

/-- READ REFERENCE, QUERY CLAIMS, READ LINE, READ COUNTERS and READ CALIBRATION report as their tables say and change
nothing; a line above 7 is BAD_ARG (R39, R56, R121, R129, R153). -/
def Obligations.ReportsChangeNothing : Prop :=
  ∀ (p : Port) (s : State), s.settle.receiving p = true →
    let t := s.settle
    let port (q : Option Port) : Byte := match q with
      | some q => BitVec.ofNat 8 q.val
      | none => 0xFF
    let index (n : Nat) (x : Option (Fin n)) : Byte := match x with
      | some x => BitVec.ofNat 8 x.val
      | none => 0xFF
    exec (.readReference p []) s = .next (t.respond p .ok
        ([(match t.rdu.state with
            | .off => 0
            | .searching => 1
            | .locked => 2
            | .holdover => 3 : Byte), BitVec.ofNat 8 (bit t.rdu.enable + 2 * bit t.rdu.autoTrim)]
          ++ bytes 3 t.rdu.wide ++ bytes 3 t.rdu.narrow ++ signedBytes 3 t.rdu.lastOffset ++ signedBytes 4 t.rdu.sum
          ++ signedBytes 4 t.rdu.lastSum ++ bytes 2 t.rdu.realignments.toNat ++ [BitVec.ofNat 8 t.rdu.misses]
          ++ bytes 2 t.rdu.strays.toNat))
    ∧ exec (.queryClaims p []) s = .next (t.respond p .ok
        ((List.finRange 17).flatMap fun r =>
          [port t.claims[r].holder, port t.claims[r].waiters[0]?, port t.claims[r].waiters[1]?,
           port t.claims[r].waiters[2]?]))
    ∧ exec (.readCounters p []) s = .next (t.respond p .ok
        ((List.finRange 8).flatMap fun i =>
          bytes 4 t.inputs[i].counter.toNat
            ++ [BitVec.ofNat 8 ((match t.inputs[i].edgeSelect with
                | .none => 0
                | .rising => 1
                | .falling => 2
                | .both => 3)
              + 4 * (match t.inputs[i].filter with
                | .one => 0
                | .two => 1
                | .four => 2
                | .eight => 3)
              + 16 * bit t.inputs[i].accepted + 32 * bit (t.calRun.any fun c => c.input == i))]))
    ∧ (∀ a : Byte, 7 < a.toNat →
        exec (.readLine p [a]) s = .next (t.respond p .badArg [])
        ∧ exec (.readCalibration p [a]) s = .next (t.respond p .badArg []))
    ∧ ∀ l : Line,
      let ln := t.lines[l]
      let r := t.results[l]
      let head : List Byte :=
        [BitVec.ofNat 8 l.val, BitVec.ofNat 8 (bit ln.idle + 2 * bit ln.level + 4 * bit ln.waveDone)]
      let tail : List Byte :=
        [BitVec.ofNat 8 ln.fineDelay.val] ++ bytes 3 ln.wavePeriod ++ bytes 3 ln.waveHigh ++ bytes 2 ln.waveCycles
      exec (.readLine p [BitVec.ofNat 8 l.val]) s = .next (t.respond p .ok (
          match ln.activity with
          | .steady => head ++ [(0 : Byte)] ++ tail ++ bytes 14 0
          | .pulsing n => head ++ [(1 : Byte)] ++ tail ++ bytes 3 n ++ bytes 11 0
          | .waving w => head ++ [(2 : Byte)] ++ tail ++ bytes 3 0 ++ bytes 3 w.period ++ bytes 3 w.high
              ++ bytes 2 (match w.left with
                | .unlimited => 0
                | .finite n => n) ++ bytes 3 w.position
          | .calibrating => head ++ [(3 : Byte)] ++ tail ++ bytes 14 0))
      ∧ exec (.readCalibration p [BitVec.ofNat 8 l.val]) s = .next (t.respond p .ok (
          [BitVec.ofNat 8 l.val,
           (match r.outcome with
            | .none => 0
            | .pass => 1
            | .nonePass => 2
            | .gap => 3
            | .aborted => 4 : Byte),
           (match r.reason with
            | none => 0
            | some .action => 1
            | some .hold => 2
            | some .release => 3
            | some .portReset => 4 : Byte)]
          ++ bytes 2 r.passMask.toNat ++ [index 16 r.lower, index 16 r.upper, index 8 r.input]
          ++ (match t.calRun with
            | some c => if c.line = l then
                [(1 : Byte), BitVec.ofNat 8 c.savedDelay.val, BitVec.ofNat 8 (c.count / 4096),
                 BitVec.ofNat 8 c.requester.val] ++ bytes 2 c.passMask.toNat
              else [(0 : Byte), 0, 0, 0xFF, 0, 0]
            | none => [(0 : Byte), 0, 0, 0xFF, 0, 0])))

/-! ### The Action Table -/

/-- SCHEDULE is refused by the first check of R67 that fails, and then nothing changes (R67 to R71). -/
def Obligations.ScheduleRefuses : Prop :=
  ∀ (p : Port) (args : List Byte) (s : State), s.settle.receiving p = true → args.length = 22 →
    let t := s.settle
    let refused (st : Status) : Prop := exec (.schedule p args) s = .next (t.respond p st [])
    let mine : Prop := arg args 0 = 6 ∨ ∀ l : Line, l.val = arg args 1 → t.claims[lineResource l].holder = some p
    (t.timebase = .unset → refused .noTime)
    ∧ (t.timebase ≠ .unset →
        (scheduleArgsBad args → refused .badArg)
        ∧ (¬scheduleArgsBad args →
          (¬mine → refused .notHolder)
          ∧ (mine →
            ((∀ k : Slot, t.slots[k] ≠ none) → refused .full)
            ∧ ∀ k : Slot, t.slots[k] = none →
              (24 ≤ t.entryCount p → refused .quota)
              ∧ (t.entryCount p < 24 → (arg args 2).testBit 0 = false → (arg args 2).testBit 1 = false →
                (timeField args 4).toNat + 1 < t.time.toNat → refused .past))))

/-- A SCHEDULE that passes every check makes the entry its arguments describe in the lowest empty slot, in the due order
behind every entry not due later if it is timed, answers its handle, and makes a firing check if the entry is due in a RUNNING
timebase (R58, R60 to R65, R72). -/
def Obligations.ScheduleMakes : Prop :=
  ∀ (p : Port) (args : List Byte) (k : Slot) (s : State), s.settle.receiving p = true → args.length = 22 →
    let t := s.settle
    t.timebase ≠ .unset → ¬scheduleArgsBad args →
    (arg args 0 = 6 ∨ ∀ l : Line, l.val = arg args 1 → t.claims[lineResource l].holder = some p) →
    t.slots[k] = none → (∀ j : Slot, j < k → t.slots[j] ≠ none) → t.entryCount p < 24 →
    ((arg args 2).testBit 0 = false → (arg args 2).testBit 1 = false → t.time.toNat ≤ (timeField args 4).toNat + 1) →
      ∃ e, DescribedBy e p args ∧ exec (.schedule p args) s = .next (
        let order := t.dueOrder.filter fun j => j != k
        let made := { t with slots := upd t.slots k fun _ => some e }
        State.respond (match e.due with
          | none => made
          | some d =>
            let placed := { made with
              dueOrder := (order.takeWhile fun j => decide (t.dueAt j ≤ d.toNat))
                ++ k :: order.dropWhile fun j => decide (t.dueAt j ≤ d.toNat) }
            if t.timebase = .running ∧ d.toNat ≤ t.time.toNat then placed.fireCheck false t.time else placed)
          p .ok [t.gens[k], BitVec.ofNat 8 k.val])

/-- CANCEL removes an entry of the port and answers its Remaining; QUERY ENTRY reports the entry in 30 bytes; LIST ENTRIES
lists the port's PENDING entries in due order, then its ARMED ones by slot; a slot above 63 is BAD_ARG, and a handle that
names no entry of the port UNKNOWN_HANDLE (R60, R74, R76, R77, R82). -/
def Obligations.EntryCommands : Prop :=
  ∀ (p : Port) (g a : Byte) (s : State), s.settle.receiving p = true →
    let t := s.settle
    (63 < a.toNat →
      exec (.cancel p [g, a]) s = .next (t.respond p .badArg [])
      ∧ exec (.queryEntry p [g, a]) s = .next (t.respond p .badArg []))
    ∧ (∀ k : Slot, a = BitVec.ofNat 8 k.val → (∀ e, t.slots[k] = some e → t.gens[k] ≠ g ∨ e.owner ≠ p) →
      exec (.cancel p [g, a]) s = .next (t.respond p .unknownHandle [])
      ∧ exec (.queryEntry p [g, a]) s = .next (t.respond p .unknownHandle []))
    ∧ (∀ (k : Slot) (e : Entry), a = BitVec.ofNat 8 k.val → t.slots[k] = some e → t.gens[k] = g → e.owner = p →
      let count : Count → Nat
        | .unlimited => 0
        | .finite n => n
      exec (.cancel p [g, a]) s = .next
        (State.respond
          { t with slots := upd t.slots k fun _ => none, gens := upd t.gens k fun g => g + 1
                   dueOrder := t.dueOrder.filter fun j => j != k }
          p .ok (bytes 2 (count e.remaining)))
      ∧ exec (.queryEntry p [g, a]) s = .next (t.respond p .ok (
          [g, a, BitVec.ofNat 8 (bit e.due.isSome),
           (match e.job with
            | .act _ .set => 0
            | .act _ .clear => 1
            | .act _ .toggle => 2
            | .act _ (.pulse _) => 3
            | .act _ .waveStart => 4
            | .act _ .waveStop => 5
            | .mark => 6 : Byte),
           (match e.job with
            | .act l _ => BitVec.ofNat 8 l.val
            | .mark => 0),
           BitVec.ofNat 8
            ((match e.form with
              | .timed => 0
              | .armed _ _ rearm => 1 + 32 * bit rearm)
             + (match e.late with
              | .drop => 0
              | .fire => 2)
             + (match e.notify with
              | .never => 0
              | .last => 4
              | .all => 8)
             + 16 * bit e.series.isSome),
           (match e.form with
            | .timed => 0
            | .armed i _ _ => BitVec.ofNat 8 i.val)]
          ++ (match e.due with
              | some d => timeBytes d
              | none => bytes 7 0)
          ++ (match e.form with
              | .timed => bytes 3 0
              | .armed _ offset _ => bytes 3 offset.toNat)
          ++ (match e.job with
              | .act _ (.pulse w) => bytes 3 w
              | _ => bytes 3 0)
          ++ (match e.series with
              | some r => bytes 4 r.period
              | none => bytes 4 0)
          ++ bytes 2 (count e.remaining)
          ++ (match e.series with
              | some r => bytes 2 (count r.initial)
              | none => bytes 2 0)
          ++ bytes 2 e.tag.toNat)))
    ∧ exec (.listEntries p []) s = .next (t.respond p .ok (
        ((t.dueOrder.filter fun k => t.slots[k].any fun e => e.owner == p).flatMap fun k =>
          [t.gens[k], BitVec.ofNat 8 k.val, 1])
        ++ (((List.finRange 64).filter fun k => t.slots[k].any fun e => e.owner == p && e.due.isNone).flatMap fun k =>
          [t.gens[k], BitVec.ofNat 8 k.val, 0])))

/-- A firing check takes the head of the due order while its Due is not later than the check time, and when it ends no entry
is due (R86); that of a wrap first takes every entry, in due order, as occurrences of a wrap, and leaves none (R104). That a
repeating entry is final at a wrap whatever its next Due is read from R104 (log 12). -/
def Obligations.CheckTakesHeads : Prop :=
  (∀ (now : TimeValue) (s : State), s.dueOrder = [] → s.fireCheck false now = s)
    ∧ (∀ (k : Slot) (rest : List Slot) (now : TimeValue) (s : State), s.dueOrder = k :: rest →
        now.toNat < s.dueAt k → s.fireCheck false now = s)
    ∧ (∀ (k : Slot) (rest : List Slot) (now : TimeValue) (s : State), TableOk s → s.dueOrder = k :: rest →
        s.dueAt k ≤ now.toNat → s.fireCheck false now = (s.occurrence false now k).fireCheck false now)
    ∧ (∀ (now : TimeValue) (s : State), TableOk s → DueOrderOk (s.fireCheck false now)
        ∧ ∀ k ∈ (s.fireCheck false now).dueOrder, now.toNat < (s.fireCheck false now).dueAt k)
    ∧ ∀ (now : TimeValue) (s : State),
        s.fireCheck true now = s.dueOrder.foldl (fun u k => u.occurrence true now k) s
          ∧ (s.fireCheck true now).dueOrder = []

/-- One occurrence of a PENDING entry with Due d at check time `now`, in an ordinary check or in that of a wrap, which counts
the lateness across the wrap and makes every occurrence final (R104): on time with lateness 0 or 1, otherwise by the Late
policy; the action unless it is dropped, then the notice that Notify asks for, then the next Due, n Periods on, the return to
ARMED, or the departure. n is 1, or with Repeat the least for which d + n × Period is not overdue (R88 to R94, R96 to R99).
The model's readings: the counts of a catch-up that the end of the range makes final (log 13), the Remaining of 0 in such a
notice for an UNLIMITED entry (log 11), and that a wrap is final whatever the next Due (log 12). -/
def Obligations.OccurrenceActs : Prop :=
  ∀ (wrapped : Bool) (k : Slot) (e : Entry) (d now : TimeValue) (n : Nat) (s : State),
    s.slots[k] = some e → e.due = some d → (wrapped = false → d.toNat ≤ now.toNat) → 1 ≤ n →
    (e.series = none → n = 1) →
    let late := if wrapped then 2 ^ 52 - d.toNat + now.toNat else now.toNat - d.toNat
    (∀ r, e.series = some r → late ≤ n * r.period + 1 ∧ (1 < n → (n - 1) * r.period + 1 < late)) →
      let left : Option Count := match e.series, e.remaining with
        | none, _ => none
        | some _, .unlimited => some .unlimited
        | some _, .finite r => if n < r then some (.finite (r - n)) else none
      let due := d.toNat + n * (match e.series with
        | some r => r.period
        | none => 0)
      let next := if wrapped = false ∧ due < 2 ^ 52 then left else none
      let consumed := match e.series, e.remaining with
        | some _, .finite r => min r n
        | _, _ => n
      let remaining (width : Nat) := match next with
        | none => 0
        | some .unlimited => 2 ^ width - 1
        | some (.finite r) => r
      let notice : Notice :=
        { kind := if late ≤ 1 then .fired else if e.late = .fire then .firedLate else .dropped
          handle := some { gen := s.gens[k], slot := k }, tag := some e.tag, time := now
          detail := BitVec.ofNat 24 (
            if late ≤ 1 then remaining 24
            else if e.late = .fire then min (consumed - 1) 255 * 65536 + remaining 16
            else min consumed 16777215) }
      let acted := if late ≤ 1 ∨ e.late = .fire then
          (match e.job with
            | .act l a => s.deliver l a
            | .mark => s)
        else s
      let told := if e.notify = .all ∨ (e.notify = .last ∧ next = none) then acted.offer e.owner notice else acted
      let order := s.dueOrder.filter fun j => j != k
      s.occurrence wrapped now k = match next with
        | some r => { told with
            slots := upd s.slots k fun _ => some { e with due := some (BitVec.ofNat 52 due), remaining := r }
            dueOrder := (order.takeWhile fun j => decide (s.dueAt j ≤ due))
              ++ k :: order.dropWhile fun j => decide (s.dueAt j ≤ due) }
        | none => match e.form with
          | .armed _ _ true => { told with
              slots := upd s.slots k fun _ => some { e with
                due := none
                remaining := match e.series with
                  | some r => r.initial
                  | none => .finite 1 }
              dueOrder := order }
          | _ => { told with
              slots := upd s.slots k fun _ => none, gens := upd s.gens k fun g => g + 1, dueOrder := order }

/-- A trigger makes every ARMED entry on the input PENDING with Due equal to the record's Time plus its Offset, leaves every
other entry, and makes a firing check when the timebase is RUNNING and one of the new Due values is not later than the time
value; at equal Due the triggered entries stand in slot order, behind every entry that was PENDING before (R65, R78). -/
def Obligations.TriggersMakePending : Prop :=
  ∀ (i : Input) (time : TimeValue) (s : State),
    let on (k : Slot) (e : Entry) (offset : BitVec 24) : Prop :=
      s.slots[k] = some e ∧ e.due = none ∧ ∃ rearm, e.form = .armed i offset rearm
    let t := s.triggerAll i time
    (∀ k e offset, on k e offset → t.slots[k] = some { e with due := some (time + offset.setWidth 52) })
    ∧ (∀ k, (∀ e offset, ¬on k e offset) → t.slots[k] = s.slots[k])
    ∧ (DueOrderOk s → DueOrderOk t ∧ s.dueOrder.Sublist t.dueOrder
        ∧ (∀ j k e e' offset offset', on j e offset → on k e' offset' → j < k →
            time + offset.setWidth 52 = time + offset'.setWidth 52 → [j, k].Sublist t.dueOrder)
        ∧ ∀ j k e offset, j ∈ s.dueOrder → on k e offset → s.dueAt j = (time + offset.setWidth 52).toNat →
            [j, k].Sublist t.dueOrder)
    ∧ t = { s with slots := t.slots, dueOrder := t.dueOrder }
    ∧ ((s.timebase = .running ∧ ∃ k e offset, on k e offset ∧ (time + offset.setWidth 52).toNat ≤ s.time.toNat) →
        s.trigger i time = t.fireCheck false s.time)
    ∧ (¬(s.timebase = .running ∧ ∃ k e offset, on k e offset ∧ (time + offset.setWidth 52).toNat ≤ s.time.toNat) →
        s.trigger i time = t)

/-! ### Lines -/

/-- CONFIGURE LINE writes the six settings, or is refused by the first check that fails and changes nothing (R119). -/
def Obligations.ConfigureLineWrites : Prop :=
  ∀ (p : Port) (s : State), s.settle.receiving p = true →
    (∀ args : List Byte, args.length = 11 →
      (7 < arg args 0 ∨ 3 < arg args 1 ∨ 15 < arg args 2 ∨ field args 3 3 < 2 ∨ 1048576 < field args 3 3
        ∨ field args 6 3 = 0 ∨ field args 3 3 ≤ field args 6 3) →
      exec (.configureLine p args) s = .next (s.settle.respond p .badArg []))
    ∧ ∀ (l : Line) (idle done : Bool) (fine : Phase) (period high cycles : Nat),
      2 ≤ period → period ≤ 1048576 → high ≠ 0 → high < period → cycles ≤ 65535 →
      let args := [BitVec.ofNat 8 l.val, BitVec.ofNat 8 (bit idle + 2 * bit done), BitVec.ofNat 8 fine.val]
        ++ bytes 3 period ++ bytes 3 high ++ bytes 2 cycles
      let t := s.settle
      (t.claims[lineResource l].holder ≠ some p →
        exec (.configureLine p args) s = .next (t.respond p .notHolder []))
      ∧ (t.claims[lineResource l].holder = some p → t.lines[l].activity = .calibrating →
        exec (.configureLine p args) s = .next (t.respond p .busy []))
      ∧ (t.claims[lineResource l].holder = some p → t.lines[l].activity ≠ .calibrating →
        exec (.configureLine p args) s = .next ((t.updLine l fun ln =>
          { ln with idle := idle, waveDone := done, fineDelay := fine, wavePeriod := period, waveHigh := high
                    waveCycles := cycles }).respond p .ok []))

/-- A delivered action aborts a calibration run on the line, discards a pulse or wave with its due step, and sets the level
and the activity of its line; the configuration, the other lines and the Action Table stay (R109 to R111, R113, R116). -/
def Obligations.ActionsAct : Prop :=
  ∀ (l : Line) (a : LineAction) (s : State),
    let ln := (if s.calibratesLine l then s.abortCalibration .action else s).lines[l]
    let cancelled := { ln with activity := Activity.steady }
    let u := s.deliver l a
    u.lines[l] = (match a with
      | .set => { cancelled with level := true }
      | .clear => { cancelled with level := false }
      | .toggle => { cancelled with level := !ln.level }
      | .pulse width => { cancelled with level := !ln.idle, activity := .pulsing width }
      | .waveStart => { cancelled with
          level := !ln.idle
          activity := .waving { period := ln.wavePeriod, high := ln.waveHigh, idle := ln.idle, position := 0
                                left := if ln.waveCycles = 0 then .unlimited else .finite ln.waveCycles } }
      | .waveStop => { cancelled with level := ln.idle })
    ∧ (∀ k : Line, k ≠ l → u.lines[k] = s.lines[k])
    ∧ u.calRun = (if s.calibratesLine l then none else s.calRun)
    ∧ u.slots = s.slots ∧ u.gens = s.gens ∧ u.dueOrder = s.dueOrder ∧ u.claims = s.claims ∧ u.time = s.time
    ∧ Event.pulseEnd l ∉ u.work ∧ Event.waveHighEnd l ∉ u.work ∧ Event.waveCycleEnd l ∉ u.work
    ∧ Event.waveCompletion l ∉ u.work
    ∧ (s.calibratesLine l = false → u.ports = s.ports ∧ u.results = s.results ∧ u.inputs = s.inputs)

/-- The due step of a pulse or wave: a pulse ends at the idle level, the high part ends at the idle level of the copy, a cycle
ends with the next at its active level, and the last cycle completes the wave at the configured idle level with WAVE_DONE to
the holder if the setting is on (R112, R114, R115). -/
def Obligations.TimerStepsMoveLines : Prop :=
  ∀ (l : Line) (s : State),
    let w (e : Event) := s.dropWork fun d => d == e
    let ln := s.lines[l]
    (∀ r, ln.activity = .pulsing r → Event.pulseEnd l ∈ s.work →
      exec (.pulseEnd l) s = .next ((w (.pulseEnd l)).updLine l fun ln =>
        { ln with level := ln.idle, activity := .steady }))
    ∧ ∀ c, ln.activity = .waving c →
      (Event.waveHighEnd l ∈ s.work →
        exec (.waveHighEnd l) s = .next ((w (.waveHighEnd l)).updLine l fun ln =>
          { ln with level := c.idle, activity := .waving { c with position := c.high } }))
      ∧ (Event.waveCycleEnd l ∈ s.work →
        exec (.waveCycleEnd l) s = .next ((w (.waveCycleEnd l)).updLine l fun ln =>
          { ln with
            level := !c.idle
            activity := .waving { c with
              position := 0
              left := match c.left with
                | .unlimited => .unlimited
                | .finite n => .finite (n - 1) } }))
      ∧ (Event.waveCompletion l ∈ s.work →
        let done := (w (.waveCompletion l)).updLine l fun ln => { ln with level := ln.idle, activity := .steady }
        (ln.waveDone = false → exec (.waveCompletion l) s = .next done)
        ∧ ∀ p, ln.waveDone = true → s.claims[lineResource l].holder = some p →
          exec (.waveCompletion l) s
            = .next (done.offer p (broadcastNotice .waveDone s.tickTime (BitVec.ofNat 24 l.val))))

/-! ### The prescaler tick -/

/-- How a tick of the whole part is made up: the due steps of the tick before, the counting, on an advance the SLEW_DONE notice
of a slew that ended, the steps taken early, with the end of a run whose step 15 they judged, then the firing check of the
advance, that of a wrap when the time value has wrapped (R5, R11, R17, R85, R95, R104, R151). That the sender names the steps taken early is the model's choice (log 9), and so is where a REFP
edge of the tick before, which the sender leaves for after the count, is handled: after the check, and before a crossing of
this tick that was not taken early (log 21). -/
def Obligations.TickRuns : Prop :=
  ∀ (samples : TickInput) (early : List Event) (s : State),
    (∀ e ∈ early, e ≠ .refpEdge ∧ ∀ p, e ≠ .portResetTaken p) →
      let checked (t : State) : State :=
        let counted := t.placePins.countAll samples
        let told := if counted.time = t.time then counted else counted.takeOne .slewDone
        let taken := early.foldl State.takeEvent told
        let closed := if Event.calRunEnd ∈ taken.work ∧ Event.calStepJudged ∉ taken.work then taken.takeOne .calRunEnd
          else taken
        if counted.time = t.time then closed
        else closed.fireCheck (decide (counted.time.toNat < t.time.toNat)) counted.time
      (s.settle.active = true →
        exec (.prescalerTick samples { early := early, refpAfter := false }) s = .next (checked s.settle))
      ∧ (Event.refpEdge ∉ s.work →
        exec (.prescalerTick samples { early := early, refpAfter := true }) s
          = exec (.prescalerTick samples { early := early, refpAfter := false }) s)
      ∧ (Event.refpEdge ∈ s.work →
        let t := (s.work.filter fun e => e != .refpEdge).foldl State.takeOne s
        t.active = true →
          exec (.prescalerTick samples { early := early, refpAfter := true }) s
            = .next (((checked t).dropWork fun e => e == .refpEdge).perform .refpEdge))

/-- The steps that the counting of a tick makes due, and no others (R12, R17, R23, R31, R112, R114, R125, R146 to R148).
That they are held as due is the model's choice (log 1). -/
def Obligations.TickMakesDue : Prop :=
  ∀ (samples : TickInput) (s : State), s.work = [] →
    let u := s.countAll samples
    (Event.slewDone ∈ u.work ↔ s.slew ≠ 0 ∧ u.slew = 0)
    ∧ (Event.windowEnd ∈ u.work ↔ s.timebase = .running ∧ s.position = BitVec.allOnes 24)
    ∧ (Event.crossing ∈ u.work ↔ u.time ≠ s.time ∧ s.rdu.narrow < u.time.toNat % 2 ^ 20
        ∧ (s.rdu.crossingDue = true ∨ u.time.toNat / 2 ^ 20 ≠ s.time.toNat / 2 ^ 20))
    ∧ (∀ l : Line,
        (Event.pulseEnd l ∈ u.work ↔ s.timebase = .running ∧ ∃ r, s.lines[l].activity = .pulsing r ∧ r ≤ 1)
        ∧ (Event.waveHighEnd l ∈ u.work ↔
            s.timebase = .running ∧ ∃ c, s.lines[l].activity = .waving c ∧ c.position + 1 = c.high)
        ∧ (Event.waveCycleEnd l ∈ u.work ↔
            s.timebase = .running ∧ ∃ c, s.lines[l].activity = .waving c ∧ c.position + 1 ≠ c.high
              ∧ c.period ≤ c.position + 1 ∧ c.left ≠ .finite 1)
        ∧ (Event.waveCompletion l ∈ u.work ↔
            s.timebase = .running ∧ ∃ c, s.lines[l].activity = .waving c ∧ c.position + 1 ≠ c.high
              ∧ c.period ≤ c.position + 1 ∧ c.left = .finite 1))
    ∧ (Event.calStepStart ∈ u.work ↔ ∃ c, u.calRun = some c ∧ c.count % 4096 = 0)
    ∧ (Event.calLeadingEdge ∈ u.work ↔ ∃ c, u.calRun = some c ∧ c.count % 4096 ∈ [256, 1280, 2304, 3328])
    ∧ (Event.calTrialJudged ∈ u.work ↔ ∃ c, u.calRun = some c ∧ c.count % 4096 ∈ [258, 1282, 2306, 3330])
    ∧ (Event.calTrailingEdge ∈ u.work ↔ ∃ c, u.calRun = some c ∧ c.count % 4096 ∈ [768, 1792, 2816, 3840])
    ∧ (Event.calStepJudged ∈ u.work ↔ ∃ c, u.calRun = some c ∧ c.count % 4096 = 4095)
    ∧ (Event.calRunEnd ∈ u.work ↔ ∃ c, u.calRun = some c ∧ c.count % 4096 = 4095 ∧ c.count / 4096 = 15)
    ∧ (∀ i : Input, Event.edgeAccepted i ∈ u.work ↔ u.inputs[i].ready ≠ none)
    ∧ (Event.refpEdge ∈ u.work ↔ samples.refp = true ∧ s.rdu.refpSample = false ∧ s.rdu.refpFresh = false)
    ∧ ∀ p : Port, Event.portResetTaken p ∉ u.work

/-- What the counting of a tick does beside the counting of the TBU and the due steps: the pins take the levels standing, the
pulse and wave timers advance in a RUNNING timebase, each phase detector records the last raw change of the interval, each
filter takes its sample with the stamp of the tick, the RDU samples REFP, takes the time value of the tick as the edge time of
a detected edge and sets the crossing due at a rollover, the engine counts, and nothing else of the part changes
(R23, R31, R108, R112, R114, R117, R124 to R126, R146). The stamp reads the reference state as it stands before a crossing or a
REFP edge of the same tick, and a candidate that begins at a sample equal to the one before takes the recorded phase as well:
the model's choices (logs 27 and 28); tickTime is the model's field (log 20). A line whose timer step falls due at the tick
stays as it stood until that step is taken (log 1). -/
def Obligations.TickSamplesAndTimers : Prop :=
  ∀ (samples : TickInput) (s : State),
    let u := s.placePins.countAll samples
    (∀ l : Line,
      let ln := { s.lines[l] with
        pin := s.lines[l].level
        pinEdge := if s.lines[l].pin = s.lines[l].level then none else some s.lines[l].fineDelay }
      (s.timebase ≠ .running → u.lines[l] = ln)
      ∧ (ln.activity = .steady ∨ ln.activity = .calibrating → u.lines[l] = ln)
      ∧ (∀ r, s.timebase = .running → ln.activity = .pulsing r → 1 < r →
          u.lines[l] = { ln with activity := .pulsing (r - 1) })
      ∧ (∀ r, ln.activity = .pulsing r → r ≤ 1 → u.lines[l] = ln)
      ∧ (∀ c, ln.activity = .waving c → (c.position + 1 = c.high ∨ c.period ≤ c.position + 1) → u.lines[l] = ln)
      ∧ ∀ c, s.timebase = .running → ln.activity = .waving c → c.position + 1 ≠ c.high → c.position + 1 < c.period →
          u.lines[l] = { ln with activity := .waving { c with position := c.position + 1 } })
    ∧ (∀ i : Input,
      let ch := { s.inputs[i] with
        prevSample := s.inputs[i].sample
        sample := samples.levels.getLsbD i.val
        lastChange := samples.changes[i].getLast? }
      let stamp : Stamp :=
        { time := u.time, phase := samples.changes[i].getLast?.getD 0, notRunning := s.timebase != .running
          refLocked := s.rdu.state == .locked }
      let run : Candidate := match ch.candidate with
        | none => { length := 1, stamp := stamp }
        | some c => { length := c.length + 1, stamp := c.stamp }
      let wanted := match ch.filter with
        | .one => 1
        | .two => 2
        | .four => 4
        | .eight => 8
      (ch.fresh = true → u.inputs[i] = { ch with accepted := ch.sample, fresh := false, candidate := none })
      ∧ (ch.fresh = false → ch.sample = ch.accepted → u.inputs[i] = { ch with candidate := none })
      ∧ (ch.fresh = false → ch.sample ≠ ch.accepted → run.length < wanted →
          u.inputs[i] = { ch with candidate := some run })
      ∧ (ch.fresh = false → ch.sample ≠ ch.accepted → wanted ≤ run.length →
          u.inputs[i] = { ch with candidate := none, ready := some run.stamp }))
    ∧ u.calRun = (s.calRun.map fun c => if c.begun then { c with count := c.count + 1 } else { c with begun := true })
    ∧ u.tickTime = u.time
    ∧ u.rdu = { s.rdu with
        refpSample := samples.refp
        refpFresh := false
        crossingDue := s.rdu.crossingDue || decide (u.time.toNat / 2 ^ 20 ≠ s.time.toNat / 2 ^ 20)
        edgeTime := if samples.refp = true ∧ s.rdu.refpSample = false ∧ s.rdu.refpFresh = false then u.time
          else s.rdu.edgeTime }
    ∧ u.vddm = s.vddm ∧ u.vddr = s.vddr ∧ u.nrstLow = s.nrstLow ∧ u.timebase = s.timebase ∧ u.pending = s.pending
    ∧ u.claims = s.claims ∧ u.slots = s.slots ∧ u.gens = s.gens ∧ u.dueOrder = s.dueOrder ∧ u.log = s.log
    ∧ u.nextSeq = s.nextSeq ∧ u.marker = s.marker ∧ u.results = s.results ∧ u.ports = s.ports ∧ u.trim = s.trim

/-! ### Inputs and the log -/

/-- CONFIGURE INPUT writes both settings and discards the candidate when the filter length changes; CLEAR COUNTER answers the
count and clears it; each is refused by the first check that fails (R128, R130). -/
def Obligations.InputCommands : Prop :=
  ∀ (p : Port) (s : State), s.settle.receiving p = true →
    let t := s.settle
    (∀ a b c : Byte, (7 < a.toNat ∨ 3 < b.toNat ∨ c ∉ [(1 : Byte), 2, 4, 8]) →
      exec (.configureInput p [a, b, c]) s = .next (t.respond p .badArg []))
    ∧ (∀ a : Byte, 7 < a.toNat → exec (.clearCounter p [a]) s = .next (t.respond p .badArg []))
    ∧ ∀ (i : Input) (select : EdgeSelect) (length : FilterLength),
      let a := BitVec.ofNat 8 i.val
      let b : Byte := match select with
        | .none => 0
        | .rising => 1
        | .falling => 2
        | .both => 3
      let c : Byte := match length with
        | .one => 1
        | .two => 2
        | .four => 4
        | .eight => 8
      (t.claims[inputResource i].holder ≠ some p →
        exec (.configureInput p [a, b, c]) s = .next (t.respond p .notHolder [])
        ∧ exec (.clearCounter p [a]) s = .next (t.respond p .notHolder []))
      ∧ (t.claims[inputResource i].holder = some p →
        (t.diverted i = true → exec (.configureInput p [a, b, c]) s = .next (t.respond p .busy []))
        ∧ (t.diverted i = false → exec (.configureInput p [a, b, c]) s = .next ((t.updInput i fun ch =>
            { ch with edgeSelect := select, filter := length
                      candidate := if length = ch.filter then ch.candidate else none }).respond p .ok []))
        ∧ exec (.clearCounter p [a]) s = .next
            ((t.updInput i fun ch => { ch with counter := 0 }).respond p .ok (bytes 4 t.inputs[i].counter.toNat)))

/-- SUBSCRIBE writes the mask, moves the cursor if asked, and evaluates CAPTURE; READ CAPTURES returns the records of
subscribed inputs from the cursor onward, oldest first and at most max, passes every record it examines, and evaluates
CAPTURE (R138 to R140). The records it examines are a front part of those after the cursor, ending with the one that reaches
max or with the newest. -/
def Obligations.LogReaders : Prop :=
  ∀ (p : Port) (s : State), s.settle.receiving p = true →
    let t := s.settle
    let after (cursor : Seq) := t.log.drop (t.log.length - (t.nextSeq - cursor).toNat)
    let wants (mask : BitVec 8) (rs : List CaptureRecord) := rs.any fun r => mask.getLsbD r.input.val
    (∀ mask b : Byte, 1 < b.toNat → exec (.subscribe p [mask, b]) s = .next (t.respond p .badArg []))
    ∧ (∀ (mask : Byte) (fromNow : Bool),
      let cursor := if fromNow then t.nextSeq else t.ports[p].cursor
      exec (.subscribe p [mask, if fromNow then 1 else 0]) s = .next
        ((t.updPort p fun c =>
          { c with subscription := mask, cursor := cursor, capture := wants mask (after cursor) }).respond p .ok
            (bytes 4 cursor.toNat)))
    ∧ (∀ a : Byte, (a = 0 ∨ 4 < a.toNat) → exec (.readCaptures p [a]) s = .next (t.respond p .badArg []))
    ∧ ∀ (max : Byte) (examined rest : List CaptureRecord), 1 ≤ max.toNat → max.toNat ≤ 4 →
      let mask := t.ports[p].subscription
      let returned := examined.filter fun r => mask.getLsbD r.input.val
      after t.ports[p].cursor = examined ++ rest → returned.length ≤ max.toNat →
      (rest = [] ∨ returned.length = max.toNat) →
      (∀ (before : List CaptureRecord) (r : CaptureRecord), examined = before ++ [r] →
        (before.filter fun r => mask.getLsbD r.input.val).length < max.toNat) →
        let cursor := t.ports[p].cursor + BitVec.ofNat 32 examined.length
        let capture := wants mask (after cursor)
        exec (.readCaptures p [max]) s = .next
          ((t.updPort p fun c => { c with cursor := cursor, capture := capture }).respond p .ok
            ([BitVec.ofNat 8 returned.length, BitVec.ofNat 8 (bit capture)] ++ bytes 4 cursor.toNat
              ++ bytes 4 t.nextSeq.toNat
              ++ returned.flatMap fun r =>
                bytes 4 r.seq.toNat
                  ++ [BitVec.ofNat 8 (r.input.val + 8 * bit r.rising + 16 * bit r.notRunning + 32 * bit r.refLocked
                        + 64 * bit r.stepped)]
                  ++ timeBytes r.time ++ [BitVec.ofNat 8 r.phase.val]))

/-- A due accepted edge reverses the accepted level; a selected one, on an input that is not diverted, overwrites the oldest
of 128 records (moving and charging the cursors on it), appends its record with the next Seq and the marker, is counted, sets
CAPTURE for every subscriber, and triggers (R125, R127, R131 to R135, R141). -/
def Obligations.EdgeAppends : Prop :=
  ∀ (i : Input) (stamp : Stamp) (s : State), Event.edgeAccepted i ∈ s.work →
    (∀ j : Input, j < i → Event.edgeAccepted j ∉ s.work) →
    (Event.calRunEnd ∈ s.work → Event.calStepJudged ∈ s.work) → s.inputs[i].ready = some stamp →
      let w := s.dropWork fun d => d == .edgeAccepted i
      let rising := !s.inputs[i].accepted
      let selected : Prop := s.diverted i = false ∧ (match s.inputs[i].edgeSelect with
        | .none => False
        | .rising => rising = true
        | .falling => rising = false
        | .both => True)
      (¬selected → exec (.edgeAccepted i) s = .next (w.updInput i fun ch =>
        { ch with accepted := rising, ready := none }))
      ∧ (selected →
        let full := 128 ≤ s.log.length
        let record : CaptureRecord :=
          { seq := s.nextSeq, input := i, rising := rising, time := stamp.time, phase := stamp.phase
            notRunning := stamp.notRunning, refLocked := stamp.refLocked, stepped := s.marker }
        let moved (c : Client) : Client := match s.log with
          | [] => c
          | r :: _ =>
            if full ∧ c.cursor = r.seq then
              (if c.subscription.getLsbD r.input.val then
                { c with cursor := c.cursor + 1, lostCaptures := satInc c.lostCaptures, loss := true }
               else { c with cursor := c.cursor + 1 })
            else c
        exec (.edgeAccepted i) s = .next (State.trigger
          { w with
            log := (if full then s.log.tail else s.log) ++ [record]
            nextSeq := s.nextSeq + 1
            marker := false
            inputs := upd s.inputs i fun ch =>
              { ch with accepted := rising, ready := none, counter := ch.counter + 1 }
            ports := each s.ports fun _ c =>
              if (moved c).subscription.getLsbD i.val then { moved c with capture := true } else moved c }
          i stamp.time))

/-! ### Calibration -/

/-- CALIBRATE is refused by the first check of R144 that fails and then changes nothing; otherwise it starts a run: the line
CALIBRATING at its idle level, the loop input's candidate discarded, the fine delay saved (R144, R145). -/
def Obligations.CalibrateStarts : Prop :=
  ∀ (p : Port) (s : State), s.settle.receiving p = true →
    let t := s.settle
    (∀ a b : Byte, (7 < a.toNat ∨ 7 < b.toNat) → exec (.calibrate p [a, b]) s = .next (t.respond p .badArg []))
    ∧ ∀ (l : Line) (i : Input),
      let answered (u : State) : Prop :=
        exec (.calibrate p [BitVec.ofNat 8 l.val, BitVec.ofNat 8 i.val]) s = .next u
      let mine := t.claims[lineResource l].holder = some p ∧ t.claims[inputResource i].holder = some p
      (¬mine → answered (t.respond p .notHolder []))
      ∧ (mine → t.timebase ≠ .running → answered (t.respond p .state []))
      ∧ (mine → t.timebase = .running → (t.calRun ≠ none ∨ t.lines[l].activity ≠ .steady) →
          answered (t.respond p .busy []))
      ∧ (mine → t.timebase = .running → t.calRun = none → t.lines[l].activity = .steady →
          answered (State.respond
            { t with
              lines := upd t.lines l fun ln => { ln with activity := .calibrating, level := ln.idle }
              inputs := upd t.inputs i fun ch => { ch with candidate := none }
              calRun := some { requester := p, line := l, input := i, savedDelay := t.lines[l].fineDelay, count := 0
                               begun := false, trials := Vector.replicate 4 none, passMask := 0 } }
            p .ok []))

/-- The result of a completed run and its code from the pass mask, with the lowest and highest passing steps and the fine
delay after the run (R149). -/
def Obligations.RunIsJudged : Prop :=
  (outcomeCode .none = 0 ∧ outcomeCode .pass = 1 ∧ outcomeCode .nonePass = 2 ∧ outcomeCode .gap = 3
    ∧ outcomeCode .aborted = 4)
  ∧ ∀ saved : Phase,
    (judgeMask 0 saved = (.nonePass, saved) ∧ lowestStep 0 = none ∧ highestStep 0 = none)
    ∧ ∀ (mask : BitVec 16) (lo hi : Phase), mask.getLsbD lo.val = true → mask.getLsbD hi.val = true →
      (∀ k : Phase, mask.getLsbD k.val = true → lo ≤ k ∧ k ≤ hi) →
        lowestStep mask = some lo ∧ highestStep mask = some hi
        ∧ ((∀ k : Phase, lo ≤ k → k ≤ hi → mask.getLsbD k.val = true) →
            judgeMask mask saved = (.pass, ⟨(lo.val + hi.val) / 2, by omega⟩))
        ∧ ((∃ k : Phase, lo ≤ k ∧ k ≤ hi ∧ mask.getLsbD k.val = false) → judgeMask mask saved = (.gap, saved))

/-- The due steps of the engine: the fine delay of the step, the leading and trailing edges, a trial judged by the last two
samples of the loop input, the step judged by its four trials, and the end of the run with its result record and CAL_DONE
(R146 to R149, R152). That the samples compared are the last two is read from R147 (log 14). -/
def Obligations.EngineStepsAct : Prop :=
  ∀ (c : CalRun) (s : State), s.calRun = some c →
    let w (e : Event) := s.dropWork fun d => d == e
    let ch := s.inputs[c.input]
    (Event.calStepStart ∈ s.work → exec .calStepStart s = .next
      ((w .calStepStart).updLine c.line fun ln => { ln with fineDelay := Fin.ofNat 16 (c.count / 4096) }))
    ∧ (Event.calLeadingEdge ∈ s.work → exec .calLeadingEdge s = .next
      ((w .calLeadingEdge).updLine c.line fun ln => { ln with level := !ln.idle }))
    ∧ (Event.calTrailingEdge ∈ s.work → exec .calTrailingEdge s = .next
      ((w .calTrailingEdge).updLine c.line fun ln => { ln with level := ln.idle }))
    ∧ (Event.calTrialJudged ∈ s.work → exec .calTrialJudged s = .next
      { w .calTrialJudged with calRun := some { c with
          trials := upd c.trials (Fin.ofNat 4 (c.count % 4096 / 1024)) fun _ =>
            some (decide (ch.sample ≠ ch.prevSample)) } })
    ∧ (Event.calStepJudged ∈ s.work → exec .calStepJudged s = .next
      { w .calStepJudged with calRun := some { c with
          passMask := if ∀ k : Fin 4, c.trials[k] = some true then c.passMask ||| BitVec.ofNat 16 (2 ^ (c.count / 4096))
            else c.passMask
          trials := Vector.replicate 4 none } })
    ∧ (Event.calRunEnd ∈ s.work → Event.calStepJudged ∉ s.work →
      let result := judgeMask c.passMask c.savedDelay
      let step (k : Option Phase) : Nat := match k with
        | some k => k.val
        | none => 0xFF
      let code := match result.1 with
        | .none => 0
        | .pass => 1
        | .nonePass => 2
        | .gap => 3
        | .aborted => 4
      exec .calRunEnd s = .next (State.offer
        { w .calRunEnd with
          lines := upd s.lines c.line fun ln => { ln with fineDelay := result.2, level := ln.idle, activity := .steady }
          inputs := upd s.inputs c.input fun ch => { ch with candidate := none }
          results := upd s.results c.line fun _ =>
            { outcome := result.1, reason := none, passMask := c.passMask, lower := lowestStep c.passMask
              upper := highestStep c.passMask, input := some c.input }
          calRun := none }
        c.requester (broadcastNotice .calDone s.tickTime (BitVec.ofNat 24
          (code * 2 ^ 20 + step (lowestStep c.passMask) * 2 ^ 8 + step (highestStep c.passMask))))))

/-- An abort restores the saved fine delay, returns the line to STEADY at its idle level, writes the result record and makes
CAL_DONE to the requester unless the reason is PORT_RESET; with the engine idle it does nothing (R150, R152). -/
def Obligations.AbortRestores : Prop :=
  (∀ (reason : AbortReason) (s : State), s.calRun = none → s.abortCalibration reason = s)
    ∧ ∀ (c : CalRun) (reason : AbortReason) (s : State), s.calRun = some c →
      let step (k : Option Phase) : Nat := match k with
        | some k => k.val
        | none => 0xFF
      let code := match reason with
        | .action => 1
        | .hold => 2
        | .release => 3
        | .portReset => 4
      let u := { s with
        lines := upd s.lines c.line fun ln => { ln with fineDelay := c.savedDelay, level := ln.idle, activity := .steady }
        inputs := upd s.inputs c.input fun ch => { ch with candidate := none }
        results := upd s.results c.line fun _ =>
          { outcome := .aborted, reason := some reason, passMask := c.passMask, lower := lowestStep c.passMask
            upper := highestStep c.passMask, input := some c.input }
        calRun := none }
      (reason = .portReset → s.abortCalibration reason = u)
      ∧ (reason ≠ .portReset → s.abortCalibration reason = u.offer c.requester (broadcastNotice .calDone s.time
          (BitVec.ofNat 24 (4 * 2 ^ 20 + code * 2 ^ 16 + step (lowestStep c.passMask) * 2 ^ 8
            + step (highestStep c.passMask)))))

/-! ### Notices -/

/-- TAKE NOTICES removes and returns the oldest notices and brings NOTICE up to date; SET ATTENTION writes the mask; a bad
argument is refused (R155, R156, R160, R162). -/
def Obligations.NoticeCommands : Prop :=
  ∀ (p : Port) (a : Byte) (s : State), s.settle.receiving p = true →
    let t := s.settle
    let c := t.ports[p]
    ((a = 0 ∨ 4 < a.toNat) → exec (.takeNotices p [a]) s = .next (t.respond p .badArg []))
    ∧ (1 ≤ a.toNat → a.toNat ≤ 4 →
      let out := c.queue.take a.toNat
      let rest := c.queue.drop a.toNat
      exec (.takeNotices p [a]) s = .next
        ((t.updPort p fun c => { c with queue := rest, notice := decide (rest ≠ []) }).respond p .ok
          ([BitVec.ofNat 8 out.length, BitVec.ofNat 8 rest.length,
            BitVec.ofNat 8 (bit (decide (rest ≠ [])) + 2 * bit c.capture + 4 * bit c.loss)]
            ++ out.flatMap fun n =>
              [(match n.kind with
                | .fired => 0
                | .firedLate => 1
                | .dropped => 2
                | .waveDone => 3
                | .granted => 4
                | .calDone => 5
                | .timeChanged => 6
                | .refState => 7 : Byte), BitVec.ofNat 8 (bit n.handle.isSome + 2 * bit n.tag.isSome)]
              ++ (match n.handle with
                  | some h => [h.gen, BitVec.ofNat 8 h.slot.val]
                  | none => [0, 0])
              ++ (match n.tag with
                  | some x => bytes 2 x.toNat
                  | none => [0, 0])
              ++ timeBytes n.time ++ bytes 3 n.detail.toNat)))
    ∧ (7 < a.toNat → exec (.setAttention p [a]) s = .next (t.respond p .badArg []))
    ∧ (a.toNat ≤ 7 → exec (.setAttention p [a]) s = .next
        ((t.updPort p fun c => { c with mask := a.setWidth 3 }).respond p .ok
          [BitVec.ofNat 8 (bit c.notice + 2 * bit c.capture + 4 * bit c.loss)]))

/-- A notice offered to a port in reset is discarded without account, to a full queue lost and counted, otherwise stored at
the back; PnATTN is low exactly while a flag is set whose mask bit is set, and high while NRST is low; an output pin is 0 while
NRST is low; PnSDO is driven only while PnCS is low (R106, R157 to R159, R162, R164, R165). That these levels are functions of
State, and that no pin is driven without the main supply, is the model's reading (log 22). -/
def Obligations.NoticesAndPins : Prop :=
  (∀ (p : Port) (n : Notice) (s : State),
    let c := s.ports[p]
    (∀ q : Port, q ≠ p → (s.offer p n).ports[q] = s.ports[q])
    ∧ (s.broadcast n).ports[p] = (s.offer p n).ports[p]
    ∧ (c.inReset = true → (s.offer p n).ports[p] = c)
    ∧ (c.inReset = false → c.queue.length < 16 →
        (s.offer p n).ports[p] = { c with queue := c.queue ++ [n], notice := true })
    ∧ (c.inReset = false → 16 ≤ c.queue.length →
        (s.offer p n).ports[p] = { c with
          loss := true
          lostNotices := if c.lostNotices = 65535 then 65535 else c.lostNotices + 1 }))
    ∧ ∀ (p : Port) (l : Line) (s : State),
      let c := s.ports[p]
      let asserted := (c.notice = true ∧ c.mask.getLsbD 0 = true) ∨ (c.capture = true ∧ c.mask.getLsbD 1 = true)
        ∨ (c.loss = true ∧ c.mask.getLsbD 2 = true)
      (s.vddm = false → s.attn p = none ∧ s.pinOut l = none ∧ s.sdo p = .notDriven)
      ∧ (s.vddm = true → s.active = false → s.attn p = some true ∧ s.pinOut l = some false)
      ∧ (s.active = true → s.pinOut l = some s.lines[l].pin ∧ (asserted → s.attn p = some false)
          ∧ (¬asserted → s.attn p = some true))
      ∧ (c.csLow = false → s.sdo p = .notDriven)
      ∧ (s.active = true → c.csLow = true → c.rstLow = false → c.rx = .response → s.sdo p = .frame c.response)
      ∧ (s.vddm = true → c.csLow = true → (c.rx ≠ .response ∨ c.rstLow = true) → s.sdo p = .ones)

/-! ### Invariants of every step -/

/-- No queue ever holds more than 16 notices, and NOTICE is set exactly while the queue is not empty (R157, R161). -/
def Obligations.NoticesStay : Prop := ∀ s t : State, NoticesOk s → step s = .next t → NoticesOk t

/-- The claim records stay in order: at most three waiters, none twice, never the holder, none on a free resource
(R40, R46). -/
def Obligations.ClaimsStay : Prop := ∀ s t : State, ClaimsOk s → step s = .next t → ClaimsOk t

/-- The log never holds more than 128 records, its Seqs stay consecutive, and every cursor stays between the oldest record and
the next Seq (R133, R137). -/
def Obligations.LogStays : Prop := ∀ s t : State, LogOk s → step s = .next t → LogOk t

/-- Trim, slew, reference state, windows and misses stay in their ranges and agree with each other
(R13, R16, R25, R32, R36). -/
def Obligations.DisciplineStays : Prop := ∀ s t : State, DisciplineOk s → step s = .next t → DisciplineOk t

/-- The due order stays the PENDING entries in order of Due, entries stay in range and within the quota, and an UNSET timebase
has an empty table (R57, R61, R65, R69). -/
def Obligations.TableStays : Prop := ∀ s t : State, TableOk s → step s = .next t → TableOk t

/-- Every entry with a line is owned by the line's holder, and the engine runs only RUNNING, for the holder of its line and
input, on a CALIBRATING line (R49, R107, R143). -/
def Obligations.HoldersStay : Prop :=
  ∀ s t : State, OwnersHold s ∧ CalibrationOk s → step s = .next t → OwnersHold t ∧ CalibrationOk t

/-- Every invariant holds in the part after reset. -/
def Obligations.InvariantsAtReset : Prop :=
  NoticesOk State.reset ∧ ClaimsOk State.reset ∧ LogOk State.reset ∧ DisciplineOk State.reset ∧ TableOk State.reset
    ∧ OwnersHold State.reset ∧ CalibrationOk State.reset

end
end

