-- ==== Sys2Proof/Laws/State.lean ====
section
/-! SUPPORT. One lemma for each field and each update of State: what the update writes, and what it leaves. -/

namespace Sys2Proof.Machine

variable (s : State)

/-! ### updPort -/

@[simp] theorem State.updPort_vddm (p : Port) (f : Client → Client) : (s.updPort p f).vddm = s.vddm := rfl
@[simp] theorem State.updPort_vddr (p : Port) (f : Client → Client) : (s.updPort p f).vddr = s.vddr := rfl
@[simp] theorem State.updPort_nrstLow (p : Port) (f : Client → Client) : (s.updPort p f).nrstLow = s.nrstLow := rfl
@[simp] theorem State.updPort_prescaler (p : Port) (f : Client → Client) :
    (s.updPort p f).prescaler = s.prescaler := rfl
@[simp] theorem State.updPort_time (p : Port) (f : Client → Client) : (s.updPort p f).time = s.time := rfl
@[simp] theorem State.updPort_timebase (p : Port) (f : Client → Client) : (s.updPort p f).timebase = s.timebase := rfl
@[simp] theorem State.updPort_position (p : Port) (f : Client → Client) : (s.updPort p f).position = s.position := rfl
@[simp] theorem State.updPort_trim (p : Port) (f : Client → Client) : (s.updPort p f).trim = s.trim := rfl
@[simp] theorem State.updPort_windowTrim (p : Port) (f : Client → Client) :
    (s.updPort p f).windowTrim = s.windowTrim := rfl
@[simp] theorem State.updPort_slew (p : Port) (f : Client → Client) : (s.updPort p f).slew = s.slew := rfl
@[simp] theorem State.updPort_tickTime (p : Port) (f : Client → Client) : (s.updPort p f).tickTime = s.tickTime := rfl
@[simp] theorem State.updPort_rdu (p : Port) (f : Client → Client) : (s.updPort p f).rdu = s.rdu := rfl
@[simp] theorem State.updPort_claims (p : Port) (f : Client → Client) : (s.updPort p f).claims = s.claims := rfl
@[simp] theorem State.updPort_slots (p : Port) (f : Client → Client) : (s.updPort p f).slots = s.slots := rfl
@[simp] theorem State.updPort_gens (p : Port) (f : Client → Client) : (s.updPort p f).gens = s.gens := rfl
@[simp] theorem State.updPort_dueOrder (p : Port) (f : Client → Client) : (s.updPort p f).dueOrder = s.dueOrder := rfl
@[simp] theorem State.updPort_lines (p : Port) (f : Client → Client) : (s.updPort p f).lines = s.lines := rfl
@[simp] theorem State.updPort_inputs (p : Port) (f : Client → Client) : (s.updPort p f).inputs = s.inputs := rfl
@[simp] theorem State.updPort_log (p : Port) (f : Client → Client) : (s.updPort p f).log = s.log := rfl
@[simp] theorem State.updPort_nextSeq (p : Port) (f : Client → Client) : (s.updPort p f).nextSeq = s.nextSeq := rfl
@[simp] theorem State.updPort_marker (p : Port) (f : Client → Client) : (s.updPort p f).marker = s.marker := rfl
@[simp] theorem State.updPort_calRun (p : Port) (f : Client → Client) : (s.updPort p f).calRun = s.calRun := rfl
@[simp] theorem State.updPort_results (p : Port) (f : Client → Client) : (s.updPort p f).results = s.results := rfl
@[simp] theorem State.updPort_ports (p : Port) (f : Client → Client) :
    (s.updPort p f).ports = upd s.ports p f := rfl
@[simp] theorem State.updPort_work (p : Port) (f : Client → Client) : (s.updPort p f).work = s.work := rfl
@[simp] theorem State.updPort_pending (p : Port) (f : Client → Client) : (s.updPort p f).pending = s.pending := rfl

/-! ### updLine -/

@[simp] theorem State.updLine_vddm (l : Line) (f : LineUnit → LineUnit) : (s.updLine l f).vddm = s.vddm := rfl
@[simp] theorem State.updLine_vddr (l : Line) (f : LineUnit → LineUnit) : (s.updLine l f).vddr = s.vddr := rfl
@[simp] theorem State.updLine_nrstLow (l : Line) (f : LineUnit → LineUnit) :
    (s.updLine l f).nrstLow = s.nrstLow := rfl
@[simp] theorem State.updLine_prescaler (l : Line) (f : LineUnit → LineUnit) :
    (s.updLine l f).prescaler = s.prescaler := rfl
@[simp] theorem State.updLine_time (l : Line) (f : LineUnit → LineUnit) : (s.updLine l f).time = s.time := rfl
@[simp] theorem State.updLine_timebase (l : Line) (f : LineUnit → LineUnit) :
    (s.updLine l f).timebase = s.timebase := rfl
@[simp] theorem State.updLine_position (l : Line) (f : LineUnit → LineUnit) :
    (s.updLine l f).position = s.position := rfl
@[simp] theorem State.updLine_trim (l : Line) (f : LineUnit → LineUnit) : (s.updLine l f).trim = s.trim := rfl
@[simp] theorem State.updLine_windowTrim (l : Line) (f : LineUnit → LineUnit) :
    (s.updLine l f).windowTrim = s.windowTrim := rfl
@[simp] theorem State.updLine_slew (l : Line) (f : LineUnit → LineUnit) : (s.updLine l f).slew = s.slew := rfl
@[simp] theorem State.updLine_tickTime (l : Line) (f : LineUnit → LineUnit) :
    (s.updLine l f).tickTime = s.tickTime := rfl
@[simp] theorem State.updLine_rdu (l : Line) (f : LineUnit → LineUnit) : (s.updLine l f).rdu = s.rdu := rfl
@[simp] theorem State.updLine_claims (l : Line) (f : LineUnit → LineUnit) : (s.updLine l f).claims = s.claims := rfl
@[simp] theorem State.updLine_slots (l : Line) (f : LineUnit → LineUnit) : (s.updLine l f).slots = s.slots := rfl
@[simp] theorem State.updLine_gens (l : Line) (f : LineUnit → LineUnit) : (s.updLine l f).gens = s.gens := rfl
@[simp] theorem State.updLine_dueOrder (l : Line) (f : LineUnit → LineUnit) :
    (s.updLine l f).dueOrder = s.dueOrder := rfl
@[simp] theorem State.updLine_lines (l : Line) (f : LineUnit → LineUnit) :
    (s.updLine l f).lines = upd s.lines l f := rfl
@[simp] theorem State.updLine_inputs (l : Line) (f : LineUnit → LineUnit) : (s.updLine l f).inputs = s.inputs := rfl
@[simp] theorem State.updLine_log (l : Line) (f : LineUnit → LineUnit) : (s.updLine l f).log = s.log := rfl
@[simp] theorem State.updLine_nextSeq (l : Line) (f : LineUnit → LineUnit) :
    (s.updLine l f).nextSeq = s.nextSeq := rfl
@[simp] theorem State.updLine_marker (l : Line) (f : LineUnit → LineUnit) : (s.updLine l f).marker = s.marker := rfl
@[simp] theorem State.updLine_calRun (l : Line) (f : LineUnit → LineUnit) : (s.updLine l f).calRun = s.calRun := rfl
@[simp] theorem State.updLine_results (l : Line) (f : LineUnit → LineUnit) :
    (s.updLine l f).results = s.results := rfl
@[simp] theorem State.updLine_ports (l : Line) (f : LineUnit → LineUnit) : (s.updLine l f).ports = s.ports := rfl
@[simp] theorem State.updLine_work (l : Line) (f : LineUnit → LineUnit) : (s.updLine l f).work = s.work := rfl
@[simp] theorem State.updLine_pending (l : Line) (f : LineUnit → LineUnit) :
    (s.updLine l f).pending = s.pending := rfl

/-! ### updInput -/

@[simp] theorem State.updInput_vddm (i : Input) (f : Channel → Channel) : (s.updInput i f).vddm = s.vddm := rfl
@[simp] theorem State.updInput_vddr (i : Input) (f : Channel → Channel) : (s.updInput i f).vddr = s.vddr := rfl
@[simp] theorem State.updInput_nrstLow (i : Input) (f : Channel → Channel) :
    (s.updInput i f).nrstLow = s.nrstLow := rfl
@[simp] theorem State.updInput_prescaler (i : Input) (f : Channel → Channel) :
    (s.updInput i f).prescaler = s.prescaler := rfl
@[simp] theorem State.updInput_time (i : Input) (f : Channel → Channel) : (s.updInput i f).time = s.time := rfl
@[simp] theorem State.updInput_timebase (i : Input) (f : Channel → Channel) :
    (s.updInput i f).timebase = s.timebase := rfl
@[simp] theorem State.updInput_position (i : Input) (f : Channel → Channel) :
    (s.updInput i f).position = s.position := rfl
@[simp] theorem State.updInput_trim (i : Input) (f : Channel → Channel) : (s.updInput i f).trim = s.trim := rfl
@[simp] theorem State.updInput_windowTrim (i : Input) (f : Channel → Channel) :
    (s.updInput i f).windowTrim = s.windowTrim := rfl
@[simp] theorem State.updInput_slew (i : Input) (f : Channel → Channel) : (s.updInput i f).slew = s.slew := rfl
@[simp] theorem State.updInput_tickTime (i : Input) (f : Channel → Channel) :
    (s.updInput i f).tickTime = s.tickTime := rfl
@[simp] theorem State.updInput_rdu (i : Input) (f : Channel → Channel) : (s.updInput i f).rdu = s.rdu := rfl
@[simp] theorem State.updInput_claims (i : Input) (f : Channel → Channel) : (s.updInput i f).claims = s.claims := rfl
@[simp] theorem State.updInput_slots (i : Input) (f : Channel → Channel) : (s.updInput i f).slots = s.slots := rfl
@[simp] theorem State.updInput_gens (i : Input) (f : Channel → Channel) : (s.updInput i f).gens = s.gens := rfl
@[simp] theorem State.updInput_dueOrder (i : Input) (f : Channel → Channel) :
    (s.updInput i f).dueOrder = s.dueOrder := rfl
@[simp] theorem State.updInput_lines (i : Input) (f : Channel → Channel) : (s.updInput i f).lines = s.lines := rfl
@[simp] theorem State.updInput_inputs (i : Input) (f : Channel → Channel) :
    (s.updInput i f).inputs = upd s.inputs i f := rfl
@[simp] theorem State.updInput_log (i : Input) (f : Channel → Channel) : (s.updInput i f).log = s.log := rfl
@[simp] theorem State.updInput_nextSeq (i : Input) (f : Channel → Channel) :
    (s.updInput i f).nextSeq = s.nextSeq := rfl
@[simp] theorem State.updInput_marker (i : Input) (f : Channel → Channel) : (s.updInput i f).marker = s.marker := rfl
@[simp] theorem State.updInput_calRun (i : Input) (f : Channel → Channel) : (s.updInput i f).calRun = s.calRun := rfl
@[simp] theorem State.updInput_results (i : Input) (f : Channel → Channel) :
    (s.updInput i f).results = s.results := rfl
@[simp] theorem State.updInput_ports (i : Input) (f : Channel → Channel) : (s.updInput i f).ports = s.ports := rfl
@[simp] theorem State.updInput_work (i : Input) (f : Channel → Channel) : (s.updInput i f).work = s.work := rfl
@[simp] theorem State.updInput_pending (i : Input) (f : Channel → Channel) :
    (s.updInput i f).pending = s.pending := rfl

/-! ### updClaim -/

@[simp] theorem State.updClaim_vddm (r : Resource) (f : ClaimRecord → ClaimRecord) :
    (s.updClaim r f).vddm = s.vddm := rfl
@[simp] theorem State.updClaim_vddr (r : Resource) (f : ClaimRecord → ClaimRecord) :
    (s.updClaim r f).vddr = s.vddr := rfl
@[simp] theorem State.updClaim_nrstLow (r : Resource) (f : ClaimRecord → ClaimRecord) :
    (s.updClaim r f).nrstLow = s.nrstLow := rfl
@[simp] theorem State.updClaim_prescaler (r : Resource) (f : ClaimRecord → ClaimRecord) :
    (s.updClaim r f).prescaler = s.prescaler := rfl
@[simp] theorem State.updClaim_time (r : Resource) (f : ClaimRecord → ClaimRecord) :
    (s.updClaim r f).time = s.time := rfl
@[simp] theorem State.updClaim_timebase (r : Resource) (f : ClaimRecord → ClaimRecord) :
    (s.updClaim r f).timebase = s.timebase := rfl
@[simp] theorem State.updClaim_position (r : Resource) (f : ClaimRecord → ClaimRecord) :
    (s.updClaim r f).position = s.position := rfl
@[simp] theorem State.updClaim_trim (r : Resource) (f : ClaimRecord → ClaimRecord) :
    (s.updClaim r f).trim = s.trim := rfl
@[simp] theorem State.updClaim_windowTrim (r : Resource) (f : ClaimRecord → ClaimRecord) :
    (s.updClaim r f).windowTrim = s.windowTrim := rfl
@[simp] theorem State.updClaim_slew (r : Resource) (f : ClaimRecord → ClaimRecord) :
    (s.updClaim r f).slew = s.slew := rfl
@[simp] theorem State.updClaim_tickTime (r : Resource) (f : ClaimRecord → ClaimRecord) :
    (s.updClaim r f).tickTime = s.tickTime := rfl
@[simp] theorem State.updClaim_rdu (r : Resource) (f : ClaimRecord → ClaimRecord) :
    (s.updClaim r f).rdu = s.rdu := rfl
@[simp] theorem State.updClaim_claims (r : Resource) (f : ClaimRecord → ClaimRecord) :
    (s.updClaim r f).claims = upd s.claims r f := rfl
@[simp] theorem State.updClaim_slots (r : Resource) (f : ClaimRecord → ClaimRecord) :
    (s.updClaim r f).slots = s.slots := rfl
@[simp] theorem State.updClaim_gens (r : Resource) (f : ClaimRecord → ClaimRecord) :
    (s.updClaim r f).gens = s.gens := rfl
@[simp] theorem State.updClaim_dueOrder (r : Resource) (f : ClaimRecord → ClaimRecord) :
    (s.updClaim r f).dueOrder = s.dueOrder := rfl
@[simp] theorem State.updClaim_lines (r : Resource) (f : ClaimRecord → ClaimRecord) :
    (s.updClaim r f).lines = s.lines := rfl
@[simp] theorem State.updClaim_inputs (r : Resource) (f : ClaimRecord → ClaimRecord) :
    (s.updClaim r f).inputs = s.inputs := rfl
@[simp] theorem State.updClaim_log (r : Resource) (f : ClaimRecord → ClaimRecord) :
    (s.updClaim r f).log = s.log := rfl
@[simp] theorem State.updClaim_nextSeq (r : Resource) (f : ClaimRecord → ClaimRecord) :
    (s.updClaim r f).nextSeq = s.nextSeq := rfl
@[simp] theorem State.updClaim_marker (r : Resource) (f : ClaimRecord → ClaimRecord) :
    (s.updClaim r f).marker = s.marker := rfl
@[simp] theorem State.updClaim_calRun (r : Resource) (f : ClaimRecord → ClaimRecord) :
    (s.updClaim r f).calRun = s.calRun := rfl
@[simp] theorem State.updClaim_results (r : Resource) (f : ClaimRecord → ClaimRecord) :
    (s.updClaim r f).results = s.results := rfl
@[simp] theorem State.updClaim_ports (r : Resource) (f : ClaimRecord → ClaimRecord) :
    (s.updClaim r f).ports = s.ports := rfl
@[simp] theorem State.updClaim_work (r : Resource) (f : ClaimRecord → ClaimRecord) :
    (s.updClaim r f).work = s.work := rfl
@[simp] theorem State.updClaim_pending (r : Resource) (f : ClaimRecord → ClaimRecord) :
    (s.updClaim r f).pending = s.pending := rfl

/-! ### dropWork -/

@[simp] theorem State.dropWork_vddm (g : Event → Bool) : (s.dropWork g).vddm = s.vddm := rfl
@[simp] theorem State.dropWork_vddr (g : Event → Bool) : (s.dropWork g).vddr = s.vddr := rfl
@[simp] theorem State.dropWork_nrstLow (g : Event → Bool) : (s.dropWork g).nrstLow = s.nrstLow := rfl
@[simp] theorem State.dropWork_prescaler (g : Event → Bool) : (s.dropWork g).prescaler = s.prescaler := rfl
@[simp] theorem State.dropWork_time (g : Event → Bool) : (s.dropWork g).time = s.time := rfl
@[simp] theorem State.dropWork_timebase (g : Event → Bool) : (s.dropWork g).timebase = s.timebase := rfl
@[simp] theorem State.dropWork_position (g : Event → Bool) : (s.dropWork g).position = s.position := rfl
@[simp] theorem State.dropWork_trim (g : Event → Bool) : (s.dropWork g).trim = s.trim := rfl
@[simp] theorem State.dropWork_windowTrim (g : Event → Bool) : (s.dropWork g).windowTrim = s.windowTrim := rfl
@[simp] theorem State.dropWork_slew (g : Event → Bool) : (s.dropWork g).slew = s.slew := rfl
@[simp] theorem State.dropWork_tickTime (g : Event → Bool) : (s.dropWork g).tickTime = s.tickTime := rfl
@[simp] theorem State.dropWork_rdu (g : Event → Bool) : (s.dropWork g).rdu = s.rdu := rfl
@[simp] theorem State.dropWork_claims (g : Event → Bool) : (s.dropWork g).claims = s.claims := rfl
@[simp] theorem State.dropWork_slots (g : Event → Bool) : (s.dropWork g).slots = s.slots := rfl
@[simp] theorem State.dropWork_gens (g : Event → Bool) : (s.dropWork g).gens = s.gens := rfl
@[simp] theorem State.dropWork_dueOrder (g : Event → Bool) : (s.dropWork g).dueOrder = s.dueOrder := rfl
@[simp] theorem State.dropWork_lines (g : Event → Bool) : (s.dropWork g).lines = s.lines := rfl
@[simp] theorem State.dropWork_inputs (g : Event → Bool) : (s.dropWork g).inputs = s.inputs := rfl
@[simp] theorem State.dropWork_log (g : Event → Bool) : (s.dropWork g).log = s.log := rfl
@[simp] theorem State.dropWork_nextSeq (g : Event → Bool) : (s.dropWork g).nextSeq = s.nextSeq := rfl
@[simp] theorem State.dropWork_marker (g : Event → Bool) : (s.dropWork g).marker = s.marker := rfl
@[simp] theorem State.dropWork_calRun (g : Event → Bool) : (s.dropWork g).calRun = s.calRun := rfl
@[simp] theorem State.dropWork_results (g : Event → Bool) : (s.dropWork g).results = s.results := rfl
@[simp] theorem State.dropWork_ports (g : Event → Bool) : (s.dropWork g).ports = s.ports := rfl
@[simp] theorem State.dropWork_work (g : Event → Bool) :
    (s.dropWork g).work = s.work.filter fun e => !g e := rfl
@[simp] theorem State.dropWork_pending (g : Event → Bool) : (s.dropWork g).pending = s.pending := rfl

/-! ### offer -/

@[simp] theorem State.offer_vddm (p : Port) (n : Notice) : (s.offer p n).vddm = s.vddm := rfl
@[simp] theorem State.offer_vddr (p : Port) (n : Notice) : (s.offer p n).vddr = s.vddr := rfl
@[simp] theorem State.offer_nrstLow (p : Port) (n : Notice) : (s.offer p n).nrstLow = s.nrstLow := rfl
@[simp] theorem State.offer_prescaler (p : Port) (n : Notice) : (s.offer p n).prescaler = s.prescaler := rfl
@[simp] theorem State.offer_time (p : Port) (n : Notice) : (s.offer p n).time = s.time := rfl
@[simp] theorem State.offer_timebase (p : Port) (n : Notice) : (s.offer p n).timebase = s.timebase := rfl
@[simp] theorem State.offer_position (p : Port) (n : Notice) : (s.offer p n).position = s.position := rfl
@[simp] theorem State.offer_trim (p : Port) (n : Notice) : (s.offer p n).trim = s.trim := rfl
@[simp] theorem State.offer_windowTrim (p : Port) (n : Notice) : (s.offer p n).windowTrim = s.windowTrim := rfl
@[simp] theorem State.offer_slew (p : Port) (n : Notice) : (s.offer p n).slew = s.slew := rfl
@[simp] theorem State.offer_tickTime (p : Port) (n : Notice) : (s.offer p n).tickTime = s.tickTime := rfl
@[simp] theorem State.offer_rdu (p : Port) (n : Notice) : (s.offer p n).rdu = s.rdu := rfl
@[simp] theorem State.offer_claims (p : Port) (n : Notice) : (s.offer p n).claims = s.claims := rfl
@[simp] theorem State.offer_slots (p : Port) (n : Notice) : (s.offer p n).slots = s.slots := rfl
@[simp] theorem State.offer_gens (p : Port) (n : Notice) : (s.offer p n).gens = s.gens := rfl
@[simp] theorem State.offer_dueOrder (p : Port) (n : Notice) : (s.offer p n).dueOrder = s.dueOrder := rfl
@[simp] theorem State.offer_lines (p : Port) (n : Notice) : (s.offer p n).lines = s.lines := rfl
@[simp] theorem State.offer_inputs (p : Port) (n : Notice) : (s.offer p n).inputs = s.inputs := rfl
@[simp] theorem State.offer_log (p : Port) (n : Notice) : (s.offer p n).log = s.log := rfl
@[simp] theorem State.offer_nextSeq (p : Port) (n : Notice) : (s.offer p n).nextSeq = s.nextSeq := rfl
@[simp] theorem State.offer_marker (p : Port) (n : Notice) : (s.offer p n).marker = s.marker := rfl
@[simp] theorem State.offer_calRun (p : Port) (n : Notice) : (s.offer p n).calRun = s.calRun := rfl
@[simp] theorem State.offer_results (p : Port) (n : Notice) : (s.offer p n).results = s.results := rfl
@[simp] theorem State.offer_ports (p : Port) (n : Notice) :
    (s.offer p n).ports = upd s.ports p fun c => c.store n := rfl
@[simp] theorem State.offer_work (p : Port) (n : Notice) : (s.offer p n).work = s.work := rfl
@[simp] theorem State.offer_pending (p : Port) (n : Notice) : (s.offer p n).pending = s.pending := rfl

/-! ### broadcast -/

@[simp] theorem State.broadcast_vddm (n : Notice) : (s.broadcast n).vddm = s.vddm := rfl
@[simp] theorem State.broadcast_vddr (n : Notice) : (s.broadcast n).vddr = s.vddr := rfl
@[simp] theorem State.broadcast_nrstLow (n : Notice) : (s.broadcast n).nrstLow = s.nrstLow := rfl
@[simp] theorem State.broadcast_prescaler (n : Notice) : (s.broadcast n).prescaler = s.prescaler := rfl
@[simp] theorem State.broadcast_time (n : Notice) : (s.broadcast n).time = s.time := rfl
@[simp] theorem State.broadcast_timebase (n : Notice) : (s.broadcast n).timebase = s.timebase := rfl
@[simp] theorem State.broadcast_position (n : Notice) : (s.broadcast n).position = s.position := rfl
@[simp] theorem State.broadcast_trim (n : Notice) : (s.broadcast n).trim = s.trim := rfl
@[simp] theorem State.broadcast_windowTrim (n : Notice) : (s.broadcast n).windowTrim = s.windowTrim := rfl
@[simp] theorem State.broadcast_slew (n : Notice) : (s.broadcast n).slew = s.slew := rfl
@[simp] theorem State.broadcast_tickTime (n : Notice) : (s.broadcast n).tickTime = s.tickTime := rfl
@[simp] theorem State.broadcast_rdu (n : Notice) : (s.broadcast n).rdu = s.rdu := rfl
@[simp] theorem State.broadcast_claims (n : Notice) : (s.broadcast n).claims = s.claims := rfl
@[simp] theorem State.broadcast_slots (n : Notice) : (s.broadcast n).slots = s.slots := rfl
@[simp] theorem State.broadcast_gens (n : Notice) : (s.broadcast n).gens = s.gens := rfl
@[simp] theorem State.broadcast_dueOrder (n : Notice) : (s.broadcast n).dueOrder = s.dueOrder := rfl
@[simp] theorem State.broadcast_lines (n : Notice) : (s.broadcast n).lines = s.lines := rfl
@[simp] theorem State.broadcast_inputs (n : Notice) : (s.broadcast n).inputs = s.inputs := rfl
@[simp] theorem State.broadcast_log (n : Notice) : (s.broadcast n).log = s.log := rfl
@[simp] theorem State.broadcast_nextSeq (n : Notice) : (s.broadcast n).nextSeq = s.nextSeq := rfl
@[simp] theorem State.broadcast_marker (n : Notice) : (s.broadcast n).marker = s.marker := rfl
@[simp] theorem State.broadcast_calRun (n : Notice) : (s.broadcast n).calRun = s.calRun := rfl
@[simp] theorem State.broadcast_results (n : Notice) : (s.broadcast n).results = s.results := rfl
@[simp] theorem State.broadcast_ports (n : Notice) :
    (s.broadcast n).ports = each s.ports fun _ c => c.store n := rfl
@[simp] theorem State.broadcast_work (n : Notice) : (s.broadcast n).work = s.work := rfl
@[simp] theorem State.broadcast_pending (n : Notice) : (s.broadcast n).pending = s.pending := rfl

/-! ### timeChanged -/

@[simp] theorem State.timeChanged_vddm (c : TimeCause) (t : TimeValue) : (s.timeChanged c t).vddm = s.vddm := rfl
@[simp] theorem State.timeChanged_vddr (c : TimeCause) (t : TimeValue) : (s.timeChanged c t).vddr = s.vddr := rfl
@[simp] theorem State.timeChanged_nrstLow (c : TimeCause) (t : TimeValue) :
    (s.timeChanged c t).nrstLow = s.nrstLow := rfl
@[simp] theorem State.timeChanged_prescaler (c : TimeCause) (t : TimeValue) :
    (s.timeChanged c t).prescaler = s.prescaler := rfl
@[simp] theorem State.timeChanged_time (c : TimeCause) (t : TimeValue) : (s.timeChanged c t).time = s.time := rfl
@[simp] theorem State.timeChanged_timebase (c : TimeCause) (t : TimeValue) :
    (s.timeChanged c t).timebase = s.timebase := rfl
@[simp] theorem State.timeChanged_position (c : TimeCause) (t : TimeValue) :
    (s.timeChanged c t).position = s.position := rfl
@[simp] theorem State.timeChanged_trim (c : TimeCause) (t : TimeValue) : (s.timeChanged c t).trim = s.trim := rfl
@[simp] theorem State.timeChanged_windowTrim (c : TimeCause) (t : TimeValue) :
    (s.timeChanged c t).windowTrim = s.windowTrim := rfl
@[simp] theorem State.timeChanged_slew (c : TimeCause) (t : TimeValue) : (s.timeChanged c t).slew = s.slew := rfl
@[simp] theorem State.timeChanged_tickTime (c : TimeCause) (t : TimeValue) :
    (s.timeChanged c t).tickTime = s.tickTime := rfl
@[simp] theorem State.timeChanged_rdu (c : TimeCause) (t : TimeValue) : (s.timeChanged c t).rdu = s.rdu := rfl
@[simp] theorem State.timeChanged_claims (c : TimeCause) (t : TimeValue) :
    (s.timeChanged c t).claims = s.claims := rfl
@[simp] theorem State.timeChanged_slots (c : TimeCause) (t : TimeValue) : (s.timeChanged c t).slots = s.slots := rfl
@[simp] theorem State.timeChanged_gens (c : TimeCause) (t : TimeValue) : (s.timeChanged c t).gens = s.gens := rfl
@[simp] theorem State.timeChanged_dueOrder (c : TimeCause) (t : TimeValue) :
    (s.timeChanged c t).dueOrder = s.dueOrder := rfl
@[simp] theorem State.timeChanged_lines (c : TimeCause) (t : TimeValue) : (s.timeChanged c t).lines = s.lines := rfl
@[simp] theorem State.timeChanged_inputs (c : TimeCause) (t : TimeValue) :
    (s.timeChanged c t).inputs = s.inputs := rfl
@[simp] theorem State.timeChanged_log (c : TimeCause) (t : TimeValue) : (s.timeChanged c t).log = s.log := rfl
@[simp] theorem State.timeChanged_nextSeq (c : TimeCause) (t : TimeValue) :
    (s.timeChanged c t).nextSeq = s.nextSeq := rfl
@[simp] theorem State.timeChanged_marker (c : TimeCause) (t : TimeValue) :
    (s.timeChanged c t).marker = s.marker := rfl
@[simp] theorem State.timeChanged_calRun (c : TimeCause) (t : TimeValue) :
    (s.timeChanged c t).calRun = s.calRun := rfl
@[simp] theorem State.timeChanged_results (c : TimeCause) (t : TimeValue) :
    (s.timeChanged c t).results = s.results := rfl
@[simp] theorem State.timeChanged_ports (c : TimeCause) (t : TimeValue) :
    (s.timeChanged c t).ports = each s.ports fun _ k => k.store (plainNotice .timeChanged t (causeCode c)) := rfl
@[simp] theorem State.timeChanged_work (c : TimeCause) (t : TimeValue) : (s.timeChanged c t).work = s.work := rfl
@[simp] theorem State.timeChanged_pending (c : TimeCause) (t : TimeValue) :
    (s.timeChanged c t).pending = s.pending := rfl

/-! ### refStateChanged -/

@[simp] theorem State.refStateChanged_vddm (r : RefState) (t : TimeValue) :
    (s.refStateChanged r t).vddm = s.vddm := rfl
@[simp] theorem State.refStateChanged_vddr (r : RefState) (t : TimeValue) :
    (s.refStateChanged r t).vddr = s.vddr := rfl
@[simp] theorem State.refStateChanged_nrstLow (r : RefState) (t : TimeValue) :
    (s.refStateChanged r t).nrstLow = s.nrstLow := rfl
@[simp] theorem State.refStateChanged_prescaler (r : RefState) (t : TimeValue) :
    (s.refStateChanged r t).prescaler = s.prescaler := rfl
@[simp] theorem State.refStateChanged_time (r : RefState) (t : TimeValue) :
    (s.refStateChanged r t).time = s.time := rfl
@[simp] theorem State.refStateChanged_timebase (r : RefState) (t : TimeValue) :
    (s.refStateChanged r t).timebase = s.timebase := rfl
@[simp] theorem State.refStateChanged_position (r : RefState) (t : TimeValue) :
    (s.refStateChanged r t).position = s.position := rfl
@[simp] theorem State.refStateChanged_trim (r : RefState) (t : TimeValue) :
    (s.refStateChanged r t).trim = s.trim := rfl
@[simp] theorem State.refStateChanged_windowTrim (r : RefState) (t : TimeValue) :
    (s.refStateChanged r t).windowTrim = s.windowTrim := rfl
@[simp] theorem State.refStateChanged_slew (r : RefState) (t : TimeValue) :
    (s.refStateChanged r t).slew = s.slew := rfl
@[simp] theorem State.refStateChanged_tickTime (r : RefState) (t : TimeValue) :
    (s.refStateChanged r t).tickTime = s.tickTime := rfl
@[simp] theorem State.refStateChanged_rdu (r : RefState) (t : TimeValue) : (s.refStateChanged r t).rdu = s.rdu := rfl
@[simp] theorem State.refStateChanged_claims (r : RefState) (t : TimeValue) :
    (s.refStateChanged r t).claims = s.claims := rfl
@[simp] theorem State.refStateChanged_slots (r : RefState) (t : TimeValue) :
    (s.refStateChanged r t).slots = s.slots := rfl
@[simp] theorem State.refStateChanged_gens (r : RefState) (t : TimeValue) :
    (s.refStateChanged r t).gens = s.gens := rfl
@[simp] theorem State.refStateChanged_dueOrder (r : RefState) (t : TimeValue) :
    (s.refStateChanged r t).dueOrder = s.dueOrder := rfl
@[simp] theorem State.refStateChanged_lines (r : RefState) (t : TimeValue) :
    (s.refStateChanged r t).lines = s.lines := rfl
@[simp] theorem State.refStateChanged_inputs (r : RefState) (t : TimeValue) :
    (s.refStateChanged r t).inputs = s.inputs := rfl
@[simp] theorem State.refStateChanged_log (r : RefState) (t : TimeValue) : (s.refStateChanged r t).log = s.log := rfl
@[simp] theorem State.refStateChanged_nextSeq (r : RefState) (t : TimeValue) :
    (s.refStateChanged r t).nextSeq = s.nextSeq := rfl
@[simp] theorem State.refStateChanged_marker (r : RefState) (t : TimeValue) :
    (s.refStateChanged r t).marker = s.marker := rfl
@[simp] theorem State.refStateChanged_calRun (r : RefState) (t : TimeValue) :
    (s.refStateChanged r t).calRun = s.calRun := rfl
@[simp] theorem State.refStateChanged_results (r : RefState) (t : TimeValue) :
    (s.refStateChanged r t).results = s.results := rfl
@[simp] theorem State.refStateChanged_ports (r : RefState) (t : TimeValue) :
    (s.refStateChanged r t).ports = each s.ports fun _ k => k.store (plainNotice .refState t (refCode r)) := rfl
@[simp] theorem State.refStateChanged_work (r : RefState) (t : TimeValue) :
    (s.refStateChanged r t).work = s.work := rfl
@[simp] theorem State.refStateChanged_pending (r : RefState) (t : TimeValue) :
    (s.refStateChanged r t).pending = s.pending := rfl

/-! ### respond -/

@[simp] theorem State.respond_vddm (p : Port) (st : Status) (b : List Byte) : (s.respond p st b).vddm = s.vddm := rfl
@[simp] theorem State.respond_vddr (p : Port) (st : Status) (b : List Byte) : (s.respond p st b).vddr = s.vddr := rfl
@[simp] theorem State.respond_nrstLow (p : Port) (st : Status) (b : List Byte) :
    (s.respond p st b).nrstLow = s.nrstLow := rfl
@[simp] theorem State.respond_prescaler (p : Port) (st : Status) (b : List Byte) :
    (s.respond p st b).prescaler = s.prescaler := rfl
@[simp] theorem State.respond_time (p : Port) (st : Status) (b : List Byte) : (s.respond p st b).time = s.time := rfl
@[simp] theorem State.respond_timebase (p : Port) (st : Status) (b : List Byte) :
    (s.respond p st b).timebase = s.timebase := rfl
@[simp] theorem State.respond_position (p : Port) (st : Status) (b : List Byte) :
    (s.respond p st b).position = s.position := rfl
@[simp] theorem State.respond_trim (p : Port) (st : Status) (b : List Byte) : (s.respond p st b).trim = s.trim := rfl
@[simp] theorem State.respond_windowTrim (p : Port) (st : Status) (b : List Byte) :
    (s.respond p st b).windowTrim = s.windowTrim := rfl
@[simp] theorem State.respond_slew (p : Port) (st : Status) (b : List Byte) : (s.respond p st b).slew = s.slew := rfl
@[simp] theorem State.respond_tickTime (p : Port) (st : Status) (b : List Byte) :
    (s.respond p st b).tickTime = s.tickTime := rfl
@[simp] theorem State.respond_rdu (p : Port) (st : Status) (b : List Byte) : (s.respond p st b).rdu = s.rdu := rfl
@[simp] theorem State.respond_claims (p : Port) (st : Status) (b : List Byte) :
    (s.respond p st b).claims = s.claims := rfl
@[simp] theorem State.respond_slots (p : Port) (st : Status) (b : List Byte) :
    (s.respond p st b).slots = s.slots := rfl
@[simp] theorem State.respond_gens (p : Port) (st : Status) (b : List Byte) : (s.respond p st b).gens = s.gens := rfl
@[simp] theorem State.respond_dueOrder (p : Port) (st : Status) (b : List Byte) :
    (s.respond p st b).dueOrder = s.dueOrder := rfl
@[simp] theorem State.respond_lines (p : Port) (st : Status) (b : List Byte) :
    (s.respond p st b).lines = s.lines := rfl
@[simp] theorem State.respond_inputs (p : Port) (st : Status) (b : List Byte) :
    (s.respond p st b).inputs = s.inputs := rfl
@[simp] theorem State.respond_log (p : Port) (st : Status) (b : List Byte) : (s.respond p st b).log = s.log := rfl
@[simp] theorem State.respond_nextSeq (p : Port) (st : Status) (b : List Byte) :
    (s.respond p st b).nextSeq = s.nextSeq := rfl
@[simp] theorem State.respond_marker (p : Port) (st : Status) (b : List Byte) :
    (s.respond p st b).marker = s.marker := rfl
@[simp] theorem State.respond_calRun (p : Port) (st : Status) (b : List Byte) :
    (s.respond p st b).calRun = s.calRun := rfl
@[simp] theorem State.respond_results (p : Port) (st : Status) (b : List Byte) :
    (s.respond p st b).results = s.results := rfl
@[simp] theorem State.respond_ports (p : Port) (st : Status) (b : List Byte) :
    (s.respond p st b).ports = upd s.ports p fun c => { c with rx := .response, response := responseFrame st b } := rfl
@[simp] theorem State.respond_work (p : Port) (st : Status) (b : List Byte) : (s.respond p st b).work = s.work := rfl
@[simp] theorem State.respond_pending (p : Port) (st : Status) (b : List Byte) :
    (s.respond p st b).pending = s.pending := rfl

/-! ### discardCandidate -/

@[simp] theorem State.discardCandidate_vddm (i : Input) : (s.discardCandidate i).vddm = s.vddm := rfl
@[simp] theorem State.discardCandidate_vddr (i : Input) : (s.discardCandidate i).vddr = s.vddr := rfl
@[simp] theorem State.discardCandidate_nrstLow (i : Input) : (s.discardCandidate i).nrstLow = s.nrstLow := rfl
@[simp] theorem State.discardCandidate_prescaler (i : Input) : (s.discardCandidate i).prescaler = s.prescaler := rfl
@[simp] theorem State.discardCandidate_time (i : Input) : (s.discardCandidate i).time = s.time := rfl
@[simp] theorem State.discardCandidate_timebase (i : Input) : (s.discardCandidate i).timebase = s.timebase := rfl
@[simp] theorem State.discardCandidate_position (i : Input) : (s.discardCandidate i).position = s.position := rfl
@[simp] theorem State.discardCandidate_trim (i : Input) : (s.discardCandidate i).trim = s.trim := rfl
@[simp] theorem State.discardCandidate_windowTrim (i : Input) :
    (s.discardCandidate i).windowTrim = s.windowTrim := rfl
@[simp] theorem State.discardCandidate_slew (i : Input) : (s.discardCandidate i).slew = s.slew := rfl
@[simp] theorem State.discardCandidate_tickTime (i : Input) : (s.discardCandidate i).tickTime = s.tickTime := rfl
@[simp] theorem State.discardCandidate_rdu (i : Input) : (s.discardCandidate i).rdu = s.rdu := rfl
@[simp] theorem State.discardCandidate_claims (i : Input) : (s.discardCandidate i).claims = s.claims := rfl
@[simp] theorem State.discardCandidate_slots (i : Input) : (s.discardCandidate i).slots = s.slots := rfl
@[simp] theorem State.discardCandidate_gens (i : Input) : (s.discardCandidate i).gens = s.gens := rfl
@[simp] theorem State.discardCandidate_dueOrder (i : Input) : (s.discardCandidate i).dueOrder = s.dueOrder := rfl
@[simp] theorem State.discardCandidate_lines (i : Input) : (s.discardCandidate i).lines = s.lines := rfl
@[simp] theorem State.discardCandidate_inputs (i : Input) :
    (s.discardCandidate i).inputs = upd s.inputs i fun ch => { ch with candidate := none } := rfl
@[simp] theorem State.discardCandidate_log (i : Input) : (s.discardCandidate i).log = s.log := rfl
@[simp] theorem State.discardCandidate_nextSeq (i : Input) : (s.discardCandidate i).nextSeq = s.nextSeq := rfl
@[simp] theorem State.discardCandidate_marker (i : Input) : (s.discardCandidate i).marker = s.marker := rfl
@[simp] theorem State.discardCandidate_calRun (i : Input) : (s.discardCandidate i).calRun = s.calRun := rfl
@[simp] theorem State.discardCandidate_results (i : Input) : (s.discardCandidate i).results = s.results := rfl
@[simp] theorem State.discardCandidate_ports (i : Input) : (s.discardCandidate i).ports = s.ports := rfl
@[simp] theorem State.discardCandidate_work (i : Input) : (s.discardCandidate i).work = s.work := rfl
@[simp] theorem State.discardCandidate_pending (i : Input) : (s.discardCandidate i).pending = s.pending := rfl

/-! ### removeEntry -/

@[simp] theorem State.removeEntry_vddm (k : Slot) : (s.removeEntry k).vddm = s.vddm := rfl
@[simp] theorem State.removeEntry_vddr (k : Slot) : (s.removeEntry k).vddr = s.vddr := rfl
@[simp] theorem State.removeEntry_nrstLow (k : Slot) : (s.removeEntry k).nrstLow = s.nrstLow := rfl
@[simp] theorem State.removeEntry_prescaler (k : Slot) : (s.removeEntry k).prescaler = s.prescaler := rfl
@[simp] theorem State.removeEntry_time (k : Slot) : (s.removeEntry k).time = s.time := rfl
@[simp] theorem State.removeEntry_timebase (k : Slot) : (s.removeEntry k).timebase = s.timebase := rfl
@[simp] theorem State.removeEntry_position (k : Slot) : (s.removeEntry k).position = s.position := rfl
@[simp] theorem State.removeEntry_trim (k : Slot) : (s.removeEntry k).trim = s.trim := rfl
@[simp] theorem State.removeEntry_windowTrim (k : Slot) : (s.removeEntry k).windowTrim = s.windowTrim := rfl
@[simp] theorem State.removeEntry_slew (k : Slot) : (s.removeEntry k).slew = s.slew := rfl
@[simp] theorem State.removeEntry_tickTime (k : Slot) : (s.removeEntry k).tickTime = s.tickTime := rfl
@[simp] theorem State.removeEntry_rdu (k : Slot) : (s.removeEntry k).rdu = s.rdu := rfl
@[simp] theorem State.removeEntry_claims (k : Slot) : (s.removeEntry k).claims = s.claims := rfl
@[simp] theorem State.removeEntry_slots (k : Slot) :
    (s.removeEntry k).slots = upd s.slots k fun _ => none := rfl
@[simp] theorem State.removeEntry_gens (k : Slot) :
    (s.removeEntry k).gens = upd s.gens k fun g => g + 1 := rfl
@[simp] theorem State.removeEntry_dueOrder (k : Slot) :
    (s.removeEntry k).dueOrder = s.dueOrder.filter fun j => j != k := rfl
@[simp] theorem State.removeEntry_lines (k : Slot) : (s.removeEntry k).lines = s.lines := rfl
@[simp] theorem State.removeEntry_inputs (k : Slot) : (s.removeEntry k).inputs = s.inputs := rfl
@[simp] theorem State.removeEntry_log (k : Slot) : (s.removeEntry k).log = s.log := rfl
@[simp] theorem State.removeEntry_nextSeq (k : Slot) : (s.removeEntry k).nextSeq = s.nextSeq := rfl
@[simp] theorem State.removeEntry_marker (k : Slot) : (s.removeEntry k).marker = s.marker := rfl
@[simp] theorem State.removeEntry_calRun (k : Slot) : (s.removeEntry k).calRun = s.calRun := rfl
@[simp] theorem State.removeEntry_results (k : Slot) : (s.removeEntry k).results = s.results := rfl
@[simp] theorem State.removeEntry_ports (k : Slot) : (s.removeEntry k).ports = s.ports := rfl
@[simp] theorem State.removeEntry_work (k : Slot) : (s.removeEntry k).work = s.work := rfl
@[simp] theorem State.removeEntry_pending (k : Slot) : (s.removeEntry k).pending = s.pending := rfl

/-! ### makePending -/

@[simp] theorem State.makePending_vddm (k : Slot) (e : Entry) (d : TimeValue) :
    (s.makePending k e d).vddm = s.vddm := rfl
@[simp] theorem State.makePending_vddr (k : Slot) (e : Entry) (d : TimeValue) :
    (s.makePending k e d).vddr = s.vddr := rfl
@[simp] theorem State.makePending_nrstLow (k : Slot) (e : Entry) (d : TimeValue) :
    (s.makePending k e d).nrstLow = s.nrstLow := rfl
@[simp] theorem State.makePending_prescaler (k : Slot) (e : Entry) (d : TimeValue) :
    (s.makePending k e d).prescaler = s.prescaler := rfl
@[simp] theorem State.makePending_time (k : Slot) (e : Entry) (d : TimeValue) :
    (s.makePending k e d).time = s.time := rfl
@[simp] theorem State.makePending_timebase (k : Slot) (e : Entry) (d : TimeValue) :
    (s.makePending k e d).timebase = s.timebase := rfl
@[simp] theorem State.makePending_position (k : Slot) (e : Entry) (d : TimeValue) :
    (s.makePending k e d).position = s.position := rfl
@[simp] theorem State.makePending_trim (k : Slot) (e : Entry) (d : TimeValue) :
    (s.makePending k e d).trim = s.trim := rfl
@[simp] theorem State.makePending_windowTrim (k : Slot) (e : Entry) (d : TimeValue) :
    (s.makePending k e d).windowTrim = s.windowTrim := rfl
@[simp] theorem State.makePending_slew (k : Slot) (e : Entry) (d : TimeValue) :
    (s.makePending k e d).slew = s.slew := rfl
@[simp] theorem State.makePending_tickTime (k : Slot) (e : Entry) (d : TimeValue) :
    (s.makePending k e d).tickTime = s.tickTime := rfl
@[simp] theorem State.makePending_rdu (k : Slot) (e : Entry) (d : TimeValue) :
    (s.makePending k e d).rdu = s.rdu := rfl
@[simp] theorem State.makePending_claims (k : Slot) (e : Entry) (d : TimeValue) :
    (s.makePending k e d).claims = s.claims := rfl
@[simp] theorem State.makePending_slots (k : Slot) (e : Entry) (d : TimeValue) :
    (s.makePending k e d).slots = upd s.slots k fun _ => some { e with due := some d } := rfl
@[simp] theorem State.makePending_gens (k : Slot) (e : Entry) (d : TimeValue) :
    (s.makePending k e d).gens = s.gens := rfl
@[simp] theorem State.makePending_dueOrder (k : Slot) (e : Entry) (d : TimeValue) :
    (s.makePending k e d).dueOrder = insertDue s.dueAt k d.toNat (s.dueOrder.filter fun j => j != k) := rfl
@[simp] theorem State.makePending_lines (k : Slot) (e : Entry) (d : TimeValue) :
    (s.makePending k e d).lines = s.lines := rfl
@[simp] theorem State.makePending_inputs (k : Slot) (e : Entry) (d : TimeValue) :
    (s.makePending k e d).inputs = s.inputs := rfl
@[simp] theorem State.makePending_log (k : Slot) (e : Entry) (d : TimeValue) :
    (s.makePending k e d).log = s.log := rfl
@[simp] theorem State.makePending_nextSeq (k : Slot) (e : Entry) (d : TimeValue) :
    (s.makePending k e d).nextSeq = s.nextSeq := rfl
@[simp] theorem State.makePending_marker (k : Slot) (e : Entry) (d : TimeValue) :
    (s.makePending k e d).marker = s.marker := rfl
@[simp] theorem State.makePending_calRun (k : Slot) (e : Entry) (d : TimeValue) :
    (s.makePending k e d).calRun = s.calRun := rfl
@[simp] theorem State.makePending_results (k : Slot) (e : Entry) (d : TimeValue) :
    (s.makePending k e d).results = s.results := rfl
@[simp] theorem State.makePending_ports (k : Slot) (e : Entry) (d : TimeValue) :
    (s.makePending k e d).ports = s.ports := rfl
@[simp] theorem State.makePending_work (k : Slot) (e : Entry) (d : TimeValue) :
    (s.makePending k e d).work = s.work := rfl
@[simp] theorem State.makePending_pending (k : Slot) (e : Entry) (d : TimeValue) :
    (s.makePending k e d).pending = s.pending := rfl

/-! ### makeArmed -/

@[simp] theorem State.makeArmed_vddm (k : Slot) (e : Entry) (c : Count) : (s.makeArmed k e c).vddm = s.vddm := rfl
@[simp] theorem State.makeArmed_vddr (k : Slot) (e : Entry) (c : Count) : (s.makeArmed k e c).vddr = s.vddr := rfl
@[simp] theorem State.makeArmed_nrstLow (k : Slot) (e : Entry) (c : Count) :
    (s.makeArmed k e c).nrstLow = s.nrstLow := rfl
@[simp] theorem State.makeArmed_prescaler (k : Slot) (e : Entry) (c : Count) :
    (s.makeArmed k e c).prescaler = s.prescaler := rfl
@[simp] theorem State.makeArmed_time (k : Slot) (e : Entry) (c : Count) : (s.makeArmed k e c).time = s.time := rfl
@[simp] theorem State.makeArmed_timebase (k : Slot) (e : Entry) (c : Count) :
    (s.makeArmed k e c).timebase = s.timebase := rfl
@[simp] theorem State.makeArmed_position (k : Slot) (e : Entry) (c : Count) :
    (s.makeArmed k e c).position = s.position := rfl
@[simp] theorem State.makeArmed_trim (k : Slot) (e : Entry) (c : Count) : (s.makeArmed k e c).trim = s.trim := rfl
@[simp] theorem State.makeArmed_windowTrim (k : Slot) (e : Entry) (c : Count) :
    (s.makeArmed k e c).windowTrim = s.windowTrim := rfl
@[simp] theorem State.makeArmed_slew (k : Slot) (e : Entry) (c : Count) : (s.makeArmed k e c).slew = s.slew := rfl
@[simp] theorem State.makeArmed_tickTime (k : Slot) (e : Entry) (c : Count) :
    (s.makeArmed k e c).tickTime = s.tickTime := rfl
@[simp] theorem State.makeArmed_rdu (k : Slot) (e : Entry) (c : Count) : (s.makeArmed k e c).rdu = s.rdu := rfl
@[simp] theorem State.makeArmed_claims (k : Slot) (e : Entry) (c : Count) :
    (s.makeArmed k e c).claims = s.claims := rfl
@[simp] theorem State.makeArmed_slots (k : Slot) (e : Entry) (c : Count) :
    (s.makeArmed k e c).slots = upd s.slots k fun _ => some { e with due := none, remaining := c } := rfl
@[simp] theorem State.makeArmed_gens (k : Slot) (e : Entry) (c : Count) : (s.makeArmed k e c).gens = s.gens := rfl
@[simp] theorem State.makeArmed_dueOrder (k : Slot) (e : Entry) (c : Count) :
    (s.makeArmed k e c).dueOrder = s.dueOrder.filter fun j => j != k := rfl
@[simp] theorem State.makeArmed_lines (k : Slot) (e : Entry) (c : Count) : (s.makeArmed k e c).lines = s.lines := rfl
@[simp] theorem State.makeArmed_inputs (k : Slot) (e : Entry) (c : Count) :
    (s.makeArmed k e c).inputs = s.inputs := rfl
@[simp] theorem State.makeArmed_log (k : Slot) (e : Entry) (c : Count) : (s.makeArmed k e c).log = s.log := rfl
@[simp] theorem State.makeArmed_nextSeq (k : Slot) (e : Entry) (c : Count) :
    (s.makeArmed k e c).nextSeq = s.nextSeq := rfl
@[simp] theorem State.makeArmed_marker (k : Slot) (e : Entry) (c : Count) :
    (s.makeArmed k e c).marker = s.marker := rfl
@[simp] theorem State.makeArmed_calRun (k : Slot) (e : Entry) (c : Count) :
    (s.makeArmed k e c).calRun = s.calRun := rfl
@[simp] theorem State.makeArmed_results (k : Slot) (e : Entry) (c : Count) :
    (s.makeArmed k e c).results = s.results := rfl
@[simp] theorem State.makeArmed_ports (k : Slot) (e : Entry) (c : Count) : (s.makeArmed k e c).ports = s.ports := rfl
@[simp] theorem State.makeArmed_work (k : Slot) (e : Entry) (c : Count) : (s.makeArmed k e c).work = s.work := rfl
@[simp] theorem State.makeArmed_pending (k : Slot) (e : Entry) (c : Count) :
    (s.makeArmed k e c).pending = s.pending := rfl

/-! ### cancelTimer -/

@[simp] theorem State.cancelTimer_vddm (l : Line) : (s.cancelTimer l).vddm = s.vddm := rfl
@[simp] theorem State.cancelTimer_vddr (l : Line) : (s.cancelTimer l).vddr = s.vddr := rfl
@[simp] theorem State.cancelTimer_nrstLow (l : Line) : (s.cancelTimer l).nrstLow = s.nrstLow := rfl
@[simp] theorem State.cancelTimer_prescaler (l : Line) : (s.cancelTimer l).prescaler = s.prescaler := rfl
@[simp] theorem State.cancelTimer_time (l : Line) : (s.cancelTimer l).time = s.time := rfl
@[simp] theorem State.cancelTimer_timebase (l : Line) : (s.cancelTimer l).timebase = s.timebase := rfl
@[simp] theorem State.cancelTimer_position (l : Line) : (s.cancelTimer l).position = s.position := rfl
@[simp] theorem State.cancelTimer_trim (l : Line) : (s.cancelTimer l).trim = s.trim := rfl
@[simp] theorem State.cancelTimer_windowTrim (l : Line) : (s.cancelTimer l).windowTrim = s.windowTrim := rfl
@[simp] theorem State.cancelTimer_slew (l : Line) : (s.cancelTimer l).slew = s.slew := rfl
@[simp] theorem State.cancelTimer_tickTime (l : Line) : (s.cancelTimer l).tickTime = s.tickTime := rfl
@[simp] theorem State.cancelTimer_rdu (l : Line) : (s.cancelTimer l).rdu = s.rdu := rfl
@[simp] theorem State.cancelTimer_claims (l : Line) : (s.cancelTimer l).claims = s.claims := rfl
@[simp] theorem State.cancelTimer_slots (l : Line) : (s.cancelTimer l).slots = s.slots := rfl
@[simp] theorem State.cancelTimer_gens (l : Line) : (s.cancelTimer l).gens = s.gens := rfl
@[simp] theorem State.cancelTimer_dueOrder (l : Line) : (s.cancelTimer l).dueOrder = s.dueOrder := rfl
@[simp] theorem State.cancelTimer_inputs (l : Line) : (s.cancelTimer l).inputs = s.inputs := rfl
@[simp] theorem State.cancelTimer_log (l : Line) : (s.cancelTimer l).log = s.log := rfl
@[simp] theorem State.cancelTimer_nextSeq (l : Line) : (s.cancelTimer l).nextSeq = s.nextSeq := rfl
@[simp] theorem State.cancelTimer_marker (l : Line) : (s.cancelTimer l).marker = s.marker := rfl
@[simp] theorem State.cancelTimer_calRun (l : Line) : (s.cancelTimer l).calRun = s.calRun := rfl
@[simp] theorem State.cancelTimer_results (l : Line) : (s.cancelTimer l).results = s.results := rfl
@[simp] theorem State.cancelTimer_ports (l : Line) : (s.cancelTimer l).ports = s.ports := rfl
@[simp] theorem State.cancelTimer_work (l : Line) :
    (s.cancelTimer l).work = s.work.filter fun e => !isTimerStep l e := rfl
@[simp] theorem State.cancelTimer_pending (l : Line) : (s.cancelTimer l).pending = s.pending := rfl

/-! ### finishRun -/

@[simp] theorem State.finishRun_vddm (c : CalRun) (d : Phase) (r : CalResult) :
    (s.finishRun c d r).vddm = s.vddm := rfl
@[simp] theorem State.finishRun_vddr (c : CalRun) (d : Phase) (r : CalResult) :
    (s.finishRun c d r).vddr = s.vddr := rfl
@[simp] theorem State.finishRun_nrstLow (c : CalRun) (d : Phase) (r : CalResult) :
    (s.finishRun c d r).nrstLow = s.nrstLow := rfl
@[simp] theorem State.finishRun_prescaler (c : CalRun) (d : Phase) (r : CalResult) :
    (s.finishRun c d r).prescaler = s.prescaler := rfl
@[simp] theorem State.finishRun_time (c : CalRun) (d : Phase) (r : CalResult) :
    (s.finishRun c d r).time = s.time := rfl
@[simp] theorem State.finishRun_timebase (c : CalRun) (d : Phase) (r : CalResult) :
    (s.finishRun c d r).timebase = s.timebase := rfl
@[simp] theorem State.finishRun_position (c : CalRun) (d : Phase) (r : CalResult) :
    (s.finishRun c d r).position = s.position := rfl
@[simp] theorem State.finishRun_trim (c : CalRun) (d : Phase) (r : CalResult) :
    (s.finishRun c d r).trim = s.trim := rfl
@[simp] theorem State.finishRun_windowTrim (c : CalRun) (d : Phase) (r : CalResult) :
    (s.finishRun c d r).windowTrim = s.windowTrim := rfl
@[simp] theorem State.finishRun_slew (c : CalRun) (d : Phase) (r : CalResult) :
    (s.finishRun c d r).slew = s.slew := rfl
@[simp] theorem State.finishRun_tickTime (c : CalRun) (d : Phase) (r : CalResult) :
    (s.finishRun c d r).tickTime = s.tickTime := rfl
@[simp] theorem State.finishRun_rdu (c : CalRun) (d : Phase) (r : CalResult) : (s.finishRun c d r).rdu = s.rdu := rfl
@[simp] theorem State.finishRun_claims (c : CalRun) (d : Phase) (r : CalResult) :
    (s.finishRun c d r).claims = s.claims := rfl
@[simp] theorem State.finishRun_slots (c : CalRun) (d : Phase) (r : CalResult) :
    (s.finishRun c d r).slots = s.slots := rfl
@[simp] theorem State.finishRun_gens (c : CalRun) (d : Phase) (r : CalResult) :
    (s.finishRun c d r).gens = s.gens := rfl
@[simp] theorem State.finishRun_dueOrder (c : CalRun) (d : Phase) (r : CalResult) :
    (s.finishRun c d r).dueOrder = s.dueOrder := rfl
@[simp] theorem State.finishRun_lines (c : CalRun) (d : Phase) (r : CalResult) :
    (s.finishRun c d r).lines = upd s.lines c.line fun ln => { ln with fineDelay := d, level := ln.idle, activity := .steady } := rfl
@[simp] theorem State.finishRun_inputs (c : CalRun) (d : Phase) (r : CalResult) :
    (s.finishRun c d r).inputs = upd s.inputs c.input fun ch => { ch with candidate := none } := rfl
@[simp] theorem State.finishRun_log (c : CalRun) (d : Phase) (r : CalResult) : (s.finishRun c d r).log = s.log := rfl
@[simp] theorem State.finishRun_nextSeq (c : CalRun) (d : Phase) (r : CalResult) :
    (s.finishRun c d r).nextSeq = s.nextSeq := rfl
@[simp] theorem State.finishRun_marker (c : CalRun) (d : Phase) (r : CalResult) :
    (s.finishRun c d r).marker = s.marker := rfl
@[simp] theorem State.finishRun_calRun (c : CalRun) (d : Phase) (r : CalResult) :
    (s.finishRun c d r).calRun = none := rfl
@[simp] theorem State.finishRun_results (c : CalRun) (d : Phase) (r : CalResult) :
    (s.finishRun c d r).results = upd s.results c.line fun _ => r := rfl
@[simp] theorem State.finishRun_ports (c : CalRun) (d : Phase) (r : CalResult) :
    (s.finishRun c d r).ports = s.ports := rfl
@[simp] theorem State.finishRun_work (c : CalRun) (d : Phase) (r : CalResult) :
    (s.finishRun c d r).work = s.work := rfl
@[simp] theorem State.finishRun_pending (c : CalRun) (d : Phase) (r : CalResult) :
    (s.finishRun c d r).pending = s.pending := rfl

end Sys2Proof.Machine
end

