-- ==== Sys2Proof/Laws/Tables.lean ====
section
/-! SUPPORT. The fixed tables: reading an element after a change of one element or of all. -/

namespace Sys2Proof

/-- The element at a place of a table of which one element was changed. -/
@[simp] theorem upd_getElem {α : Type} {n : Nat} (v : Vector α n) (i : Fin n) (f : α → α) (k : Nat) (h : k < n) :
    (upd v i f)[k] = if i.val = k then f v[i.val] else v[k] := by
  simp only [upd, Fin.getElem_fin, Vector.getElem_set]

theorem upd_get {α : Type} {n : Nat} (v : Vector α n) (i : Fin n) (f : α → α) (j : Fin n) :
    (upd v i f)[j] = if i = j then f v[i] else v[j] := by
  simp [Fin.val_inj]

theorem upd_same {α : Type} {n : Nat} (v : Vector α n) (i : Fin n) (f : α → α) : (upd v i f)[i] = f v[i] := by
  simp

theorem upd_other {α : Type} {n : Nat} (v : Vector α n) {i j : Fin n} (f : α → α) (h : i ≠ j) :
    (upd v i f)[j] = v[j] := by
  simp [h, Fin.val_inj]

/-- The element at a place of a table of which every element was changed. -/
@[simp] theorem each_getElem {α : Type} {n : Nat} (v : Vector α n) (f : Fin n → α → α) (k : Nat) (h : k < n) :
    (each v f)[k] = f ⟨k, h⟩ v[k] := by
  simp [each]

theorem each_get {α : Type} {n : Nat} (v : Vector α n) (f : Fin n → α → α) (j : Fin n) :
    (each v f)[j] = f j v[j] := by
  simp

/-- Two tables with the same elements are one table. -/
theorem table_ext {α : Type} {n : Nat} {v w : Vector α n} (h : ∀ i : Fin n, v[i] = w[i]) : v = w := by
  ext i hi
  exact h ⟨i, hi⟩

namespace Machine

variable (s : State)

/-- The holder of a resource passes its claim check, and no other port does (R42). -/
theorem State.holds_iff (p : Port) (r : Resource) : s.holds p r = true ↔ s.claims[r].holder = some p := by
  simp [State.holds]

@[simp] theorem lineResource_inj (l k : Line) : lineResource l = lineResource k ↔ l = k := by
  simp [lineResource, Fin.ext_iff]

@[simp] theorem inputResource_inj (i j : Input) : inputResource i = inputResource j ↔ i = j := by
  simp [inputResource, Fin.ext_iff]

theorem lineResource_ne_inputResource (l : Line) (i : Input) : lineResource l ≠ inputResource i := by
  simp only [lineResource, inputResource, ne_eq, Fin.mk.injEq]
  omega

end Machine

end Sys2Proof
end

