-- ==== Sys2Proof/Laws/Notices.lean ====
section
/-! SUPPORT. Storing a notice: everything it can do to a port, and what it leaves. -/

namespace Sys2Proof.Machine

/-- All a notice can do to the port it is offered to: nothing while the port is in reset (R159), stored at the back (R157), or
lost and counted (R158). -/
theorem Client.store_cases (c : Client) (n : Notice) :
    (c.inReset = true ∧ c.store n = c)
    ∨ (c.inReset = false ∧ c.queue.length < 16 ∧ c.store n = { c with queue := c.queue ++ [n], notice := true })
    ∨ (c.inReset = false ∧ 16 ≤ c.queue.length
        ∧ c.store n = { c with lostNotices := satInc c.lostNotices, loss := true }) := by
  unfold Client.store Config.queueCapacity
  cases c.inReset with
  | true => exact .inl ⟨rfl, rfl⟩
  | false =>
    by_cases h : c.queue.length < 16
    · exact .inr (.inl ⟨rfl, h, by simp [h]⟩)
    · exact .inr (.inr ⟨rfl, Nat.le_of_not_lt h, by simp [h]⟩)

variable (c : Client) (n : Notice)

@[simp] theorem Client.store_rx : (c.store n).rx = c.rx := by unfold Client.store; split_ifs <;> rfl
@[simp] theorem Client.store_response : (c.store n).response = c.response := by unfold Client.store; split_ifs <;> rfl
@[simp] theorem Client.store_frameErrors : (c.store n).frameErrors = c.frameErrors := by
  unfold Client.store; split_ifs <;> rfl
@[simp] theorem Client.store_inReset : (c.store n).inReset = c.inReset := by unfold Client.store; split_ifs <;> rfl
@[simp] theorem Client.store_resetPending : (c.store n).resetPending = c.resetPending := by
  unfold Client.store; split_ifs <;> rfl
@[simp] theorem Client.store_csLow : (c.store n).csLow = c.csLow := by unfold Client.store; split_ifs <;> rfl
@[simp] theorem Client.store_rstLow : (c.store n).rstLow = c.rstLow := by unfold Client.store; split_ifs <;> rfl
@[simp] theorem Client.store_capture : (c.store n).capture = c.capture := by unfold Client.store; split_ifs <;> rfl
@[simp] theorem Client.store_mask : (c.store n).mask = c.mask := by unfold Client.store; split_ifs <;> rfl
@[simp] theorem Client.store_cursor : (c.store n).cursor = c.cursor := by unfold Client.store; split_ifs <;> rfl
@[simp] theorem Client.store_subscription : (c.store n).subscription = c.subscription := by
  unfold Client.store; split_ifs <;> rfl
@[simp] theorem Client.store_lostCaptures : (c.store n).lostCaptures = c.lostCaptures := by
  unfold Client.store; split_ifs <;> rfl

end Sys2Proof.Machine
end

