-- ==== Sys2Proof/Laws/Firing.lean ====
section
/-! SUPPORT. What a firing check, and everything it is made of, leaves as it was: all but the Action Table, the lines, the
engine with its results, the filter candidates, the due steps, and the queues with their accounts. -/

namespace Sys2Proof.Machine

/-- A port keeps everything but its queue, its NOTICE and LOSS flags and its lost-notice count. -/
structure Client.KeepsAllButQueue (c d : Client) : Prop where
  rx : d.rx = c.rx
  response : d.response = c.response
  frameErrors : d.frameErrors = c.frameErrors
  inReset : d.inReset = c.inReset
  resetPending : d.resetPending = c.resetPending
  csLow : d.csLow = c.csLow
  rstLow : d.rstLow = c.rstLow
  capture : d.capture = c.capture
  mask : d.mask = c.mask
  cursor : d.cursor = c.cursor
  subscription : d.subscription = c.subscription
  lostCaptures : d.lostCaptures = c.lostCaptures

/-- What firing leaves as it was. -/
structure State.KeptByFiring (s t : State) : Prop where
  vddm : t.vddm = s.vddm
  vddr : t.vddr = s.vddr
  nrstLow : t.nrstLow = s.nrstLow
  prescaler : t.prescaler = s.prescaler
  time : t.time = s.time
  timebase : t.timebase = s.timebase
  position : t.position = s.position
  trim : t.trim = s.trim
  windowTrim : t.windowTrim = s.windowTrim
  slew : t.slew = s.slew
  tickTime : t.tickTime = s.tickTime
  rdu : t.rdu = s.rdu
  claims : t.claims = s.claims
  log : t.log = s.log
  nextSeq : t.nextSeq = s.nextSeq
  marker : t.marker = s.marker
  pending : t.pending = s.pending
  ports : ∀ p : Port, Client.KeepsAllButQueue s.ports[p] t.ports[p]

theorem Client.KeepsAllButQueue.refl (c : Client) : c.KeepsAllButQueue c := by
  constructor <;> rfl

theorem Client.KeepsAllButQueue.trans {c d e : Client} (h : c.KeepsAllButQueue d) (k : d.KeepsAllButQueue e) :
    c.KeepsAllButQueue e :=
  ⟨k.rx.trans h.rx, k.response.trans h.response, k.frameErrors.trans h.frameErrors, k.inReset.trans h.inReset,
    k.resetPending.trans h.resetPending, k.csLow.trans h.csLow, k.rstLow.trans h.rstLow, k.capture.trans h.capture,
    k.mask.trans h.mask, k.cursor.trans h.cursor, k.subscription.trans h.subscription,
    k.lostCaptures.trans h.lostCaptures⟩

/-- Storing a notice touches the queue and its accounts only. -/
theorem Client.store_keeps (c : Client) (n : Notice) : c.KeepsAllButQueue (c.store n) := by
  constructor <;> simp

namespace State

/-- A change that leaves everything firing leaves, ports included, whole. -/
theorem KeptByFiring.of_ports {s t : State}
    (h : { t with slots := s.slots, gens := s.gens, dueOrder := s.dueOrder, lines := s.lines, inputs := s.inputs,
                  calRun := s.calRun, results := s.results, work := s.work, ports := s.ports } = s)
    (k : ∀ p : Port, Client.KeepsAllButQueue s.ports[p] t.ports[p]) : s.KeptByFiring t := by
  refine ⟨?_, ?_, ?_, ?_, ?_, ?_, ?_, ?_, ?_, ?_, ?_, ?_, ?_, ?_, ?_, ?_, ?_, k⟩ <;> rw [← h]

theorem KeptByFiring.refl (s : State) : s.KeptByFiring s := .of_ports rfl fun _ => .refl _

theorem KeptByFiring.trans {s t u : State} (h : s.KeptByFiring t) (k : t.KeptByFiring u) : s.KeptByFiring u :=
  ⟨k.vddm.trans h.vddm, k.vddr.trans h.vddr, k.nrstLow.trans h.nrstLow, k.prescaler.trans h.prescaler,
    k.time.trans h.time, k.timebase.trans h.timebase, k.position.trans h.position, k.trim.trans h.trim,
    k.windowTrim.trans h.windowTrim, k.slew.trans h.slew, k.tickTime.trans h.tickTime, k.rdu.trans h.rdu,
    k.claims.trans h.claims, k.log.trans h.log, k.nextSeq.trans h.nextSeq, k.marker.trans h.marker,
    k.pending.trans h.pending, fun p => (h.ports p).trans (k.ports p)⟩

/-- A run of steps each of which keeps what firing leaves. -/
theorem KeptByFiring.foldl {α : Type} {f : State → α → State} (h : ∀ (s : State) (a : α), s.KeptByFiring (f s a))
    (as : List α) :
    ∀ s : State, s.KeptByFiring (as.foldl f s) := by
  induction as with
  | nil => exact fun s => .refl s
  | cons a as ih => exact fun s => (h s a).trans (ih (f s a))

variable (s : State)

theorem updLine_kept (l : Line) (f : LineUnit → LineUnit) : s.KeptByFiring (s.updLine l f) :=
  .of_ports rfl fun _ => .refl _

theorem removeEntry_kept (k : Slot) : s.KeptByFiring (s.removeEntry k) := .of_ports rfl fun _ => .refl _

theorem makePending_kept (k : Slot) (e : Entry) (d : TimeValue) : s.KeptByFiring (s.makePending k e d) :=
  .of_ports rfl fun _ => .refl _

theorem makeArmed_kept (k : Slot) (e : Entry) (c : Count) : s.KeptByFiring (s.makeArmed k e c) :=
  .of_ports rfl fun _ => .refl _

theorem offer_kept (p : Port) (n : Notice) : s.KeptByFiring (s.offer p n) :=
  .of_ports rfl fun q => by
    rw [State.offer_ports, upd_get]
    split_ifs with h
    · subst h; exact Client.store_keeps _ n
    · exact .refl _

theorem broadcast_kept (n : Notice) : s.KeptByFiring (s.broadcast n) :=
  .of_ports rfl fun q => by rw [State.broadcast_ports, each_get]; exact Client.store_keeps _ n

theorem abortCalibration_kept (r : AbortReason) : s.KeptByFiring (s.abortCalibration r) := by
  unfold State.abortCalibration
  cases s.calRun with
  | none => exact .refl s
  | some c =>
    have h : ∀ d x, s.KeptByFiring (s.finishRun c d x) := fun _ _ => .of_ports rfl fun _ => .refl _
    dsimp only
    split_ifs
    · exact h _ _
    · exact (h _ _).trans (offer_kept _ _ _)

theorem cancelTimer_kept (l : Line) : s.KeptByFiring (s.cancelTimer l) := .of_ports rfl fun _ => .refl _

theorem abortOn_kept (l : Line) (r : AbortReason) : s.KeptByFiring (s.abortOn l r) := by
  unfold State.abortOn
  split_ifs
  · exact abortCalibration_kept s r
  · exact .refl s

theorem deliver_kept (l : Line) (a : LineAction) : s.KeptByFiring (s.deliver l a) :=
  ((abortOn_kept s l _).trans (cancelTimer_kept _ l)).trans (updLine_kept _ l _)

theorem finishEntry_kept (k : Slot) (e : Entry) : s.KeptByFiring (s.finishEntry k e) := by
  unfold State.finishEntry
  split
  · exact makeArmed_kept s _ _ _
  · exact removeEntry_kept s _

theorem deliverOccurrence_kept (v : Verdict) (j : Job) : s.KeptByFiring (s.deliverOccurrence v j) := by
  unfold State.deliverOccurrence
  split
  · exact .refl s
  · exact .refl s
  · exact deliver_kept s _ _

theorem noticeOccurrence_kept (e : Entry) (h : Handle) (v : Verdict) (st : Settlement) (now : TimeValue) :
    s.KeptByFiring (s.noticeOccurrence e h v st now) := by
  unfold State.noticeOccurrence
  split_ifs
  · exact offer_kept s _ _
  · exact .refl s

theorem settleEntry_kept (k : Slot) (e : Entry) (next : Option (TimeValue × Count)) :
    s.KeptByFiring (s.settleEntry k e next) := by
  unfold State.settleEntry
  split
  · exact makePending_kept s _ _ _
  · exact finishEntry_kept s _ _

theorem occurrence_kept (wrapped : Bool) (now : TimeValue) (k : Slot) :
    s.KeptByFiring (s.occurrence wrapped now k) := by
  unfold State.occurrence
  split
  · exact .of_ports rfl fun _ => .refl _
  · exact ((deliverOccurrence_kept s _ _).trans (noticeOccurrence_kept _ _ _ _ _ _)).trans (settleEntry_kept _ _ _ _)

theorem fireLoop_kept (fuel : Nat) (now : TimeValue) : ∀ s : State, s.KeptByFiring (fireLoop fuel now s) := by
  induction fuel with
  | zero => exact fun s => .refl s
  | succ n ih =>
    intro s
    unfold fireLoop
    split
    · exact .refl s
    · split_ifs
      · exact .refl s
      · exact (occurrence_kept s _ _ _).trans (ih _)

theorem takeWrapped_kept (now : TimeValue) : s.KeptByFiring (s.takeWrapped now) :=
  KeptByFiring.foldl (fun s k => occurrence_kept s true now k) s.dueOrder s

/-- A firing check leaves all that firing leaves. -/
theorem fireCheck_kept (wrapped : Bool) (now : TimeValue) : s.KeptByFiring (s.fireCheck wrapped now) := by
  unfold State.fireCheck State.takeDue
  split_ifs
  · exact (takeWrapped_kept s now).trans (fireLoop_kept _ now _)
  · exact fireLoop_kept _ now s

end State

end Sys2Proof.Machine
end

