-- ==== Sys2Proof/Laws/Work.lean ====
section
/-! SUPPORT. The due steps: no operation but a tick and the end of a response makes one due, and settling takes them all. -/

namespace Sys2Proof.Machine

/-- No step becomes due. -/
def State.DuesNothing (s t : State) : Prop := t.work.Sublist s.work

namespace State

theorem DuesNothing.refl (s : State) : s.DuesNothing s := List.Sublist.refl _

theorem DuesNothing.trans {s t u : State} (h : s.DuesNothing t) (k : t.DuesNothing u) : s.DuesNothing u :=
  List.Sublist.trans k h

theorem DuesNothing.of_eq {s t : State} (h : t.work = s.work) : s.DuesNothing t := by
  simp [DuesNothing, h]

theorem DuesNothing.foldl {α : Type} {f : State → α → State} (h : ∀ (s : State) (a : α), s.DuesNothing (f s a))
    (as : List α) : ∀ s : State, s.DuesNothing (as.foldl f s) := by
  induction as with
  | nil => exact fun s => .refl s
  | cons a as ih => exact fun s => (h s a).trans (ih (f s a))

variable (s : State)

theorem dropWork_dues (g : Event → Bool) : s.DuesNothing (s.dropWork g) := by
  simp [DuesNothing, List.filter_sublist]

theorem cancelTimer_dues (l : Line) : s.DuesNothing (s.cancelTimer l) := by
  simp [DuesNothing, List.filter_sublist]

theorem abortCalibration_work (r : AbortReason) : (s.abortCalibration r).work = s.work := by
  unfold State.abortCalibration
  split
  · rfl
  · dsimp only
    split_ifs <;> rfl

theorem abortOn_work (l : Line) (r : AbortReason) : (s.abortOn l r).work = s.work := by
  unfold State.abortOn
  split_ifs
  · exact abortCalibration_work s r
  · rfl

theorem deliver_dues (l : Line) (a : LineAction) : s.DuesNothing (s.deliver l a) := by
  have h : s.DuesNothing (s.abortOn l .action) := .of_eq (abortOn_work s l _)
  exact (h.trans (cancelTimer_dues _ l)).trans (.of_eq rfl)

theorem deliverOccurrence_dues (v : Verdict) (j : Job) : s.DuesNothing (s.deliverOccurrence v j) := by
  unfold State.deliverOccurrence
  split
  · exact .refl s
  · exact .refl s
  · exact deliver_dues s _ _

theorem noticeOccurrence_work (e : Entry) (h : Handle) (v : Verdict) (st : Settlement) (now : TimeValue) :
    (s.noticeOccurrence e h v st now).work = s.work := by
  unfold State.noticeOccurrence
  split_ifs <;> rfl

theorem settleEntry_work (k : Slot) (e : Entry) (next : Option (TimeValue × Count)) :
    (s.settleEntry k e next).work = s.work := by
  unfold State.settleEntry State.finishEntry
  split
  · rfl
  · split <;> rfl

theorem occurrence_dues (wrapped : Bool) (now : TimeValue) (k : Slot) : s.DuesNothing (s.occurrence wrapped now k) := by
  unfold State.occurrence
  split
  · exact .of_eq rfl
  · exact (deliverOccurrence_dues s _ _).trans
      (.of_eq ((settleEntry_work _ _ _ _).trans (noticeOccurrence_work _ _ _ _ _ _)))

theorem fireLoop_dues (fuel : Nat) (now : TimeValue) : ∀ s : State, s.DuesNothing (fireLoop fuel now s) := by
  induction fuel with
  | zero => exact fun s => .refl s
  | succ n ih =>
    intro s
    unfold fireLoop
    split
    · exact .refl s
    · split_ifs
      · exact .refl s
      · exact (occurrence_dues s _ _ _).trans (ih _)

theorem takeWrapped_dues (now : TimeValue) : s.DuesNothing (s.takeWrapped now) :=
  DuesNothing.foldl (fun s k => occurrence_dues s true now k) s.dueOrder s

theorem fireCheck_dues (wrapped : Bool) (now : TimeValue) : s.DuesNothing (s.fireCheck wrapped now) := by
  unfold State.fireCheck State.takeDue
  split_ifs
  · exact (takeWrapped_dues s now).trans (fireLoop_dues _ now _)
  · exact fireLoop_dues _ now s

theorem checkForward_dues (c : Int) (t : TimeValue) : s.DuesNothing (s.checkForward c t) := by
  unfold State.checkForward
  split_ifs
  · exact fireCheck_dues s _ _
  · exact .refl s

theorem refpEdge_dues : s.DuesNothing s.refpEdge := by
  unfold State.refpEdge
  dsimp only
  split
  · exact .refl s
  all_goals
    split_ifs
    · exact (DuesNothing.of_eq rfl).trans (checkForward_dues _ _ _)
    · exact .of_eq rfl

theorem crossing_work : s.crossing.work = s.work := by
  unfold State.crossing
  dsimp only
  split <;> (try split_ifs) <;> rfl

theorem windowEnd_work : s.windowEnd.work = s.work := by
  unfold State.windowEnd
  dsimp only
  split_ifs <;> rfl

theorem waveCompletion_work (l : Line) : (s.waveCompletion l).work = s.work := by
  unfold State.waveCompletion
  split
  · dsimp only
    split <;> rfl
  · rfl

theorem overwriteOldest_work : s.overwriteOldest.work = s.work := by
  unfold State.overwriteOldest
  split <;> rfl

theorem appendRecord_work (i : Input) (r : Bool) (st : Stamp) : (s.appendRecord i r st).work = s.work := by
  unfold State.appendRecord
  dsimp only
  split_ifs
  · exact overwriteOldest_work s
  · rfl

theorem triggerSlot_work (i : Input) (t : TimeValue) (k : Slot) : (s.triggerSlot i t k).work = s.work := by
  unfold State.triggerSlot
  split <;> rfl

theorem triggerAll_dues (i : Input) (t : TimeValue) : s.DuesNothing (s.triggerAll i t) :=
  DuesNothing.foldl (fun s k => .of_eq (triggerSlot_work s i t k)) (List.finRange 64) s

theorem trigger_dues (i : Input) (t : TimeValue) : s.DuesNothing (s.trigger i t) := by
  unfold State.trigger
  split_ifs
  · exact (triggerAll_dues s i t).trans (fireCheck_dues _ _ _)
  · exact triggerAll_dues s i t

theorem edgeAccepted_dues (i : Input) : s.DuesNothing (s.edgeAccepted i) := by
  unfold State.edgeAccepted
  split
  · exact .refl s
  · dsimp only
    split_ifs
    · refine DuesNothing.trans ?_ (trigger_dues _ _ _)
      exact .of_eq ((appendRecord_work _ _ _ _).trans (State.updInput_work s i _))
    · exact .of_eq rfl

theorem removeEntries_work (ks : List Slot) : ∀ s : State, (s.removeEntries ks).work = s.work := by
  induction ks with
  | nil => exact fun s => rfl
  | cons k ks ih => exact fun s => ih (s.removeEntry k)

theorem removeWhere_work (f : Entry → Bool) : (s.removeWhere f).work = s.work := removeEntries_work _ s

theorem cascade_dues (byReset : Bool) (p : Port) (r : Resource) : s.DuesNothing (s.cascade byReset p r) := by
  unfold State.cascade
  split_ifs with h
  · unfold State.cascadeLine
    have k : s.DuesNothing (s.abortOn ⟨r.val, h⟩ (releaseReason byReset p s)) := .of_eq (abortOn_work s _ _)
    exact (k.trans (cancelTimer_dues _ _)).trans (.of_eq (removeWhere_work _ _))
  · unfold State.cascadeInput
    split_ifs
    · exact .of_eq (abortCalibration_work s _)
    · exact .refl s
  · exact .refl s

theorem grant_work (r : Resource) : (s.grant r).work = s.work := by
  unfold State.grant
  split <;> rfl

theorem giveUp_dues (byReset : Bool) (p : Port) (r : Resource) : s.DuesNothing (s.giveUp byReset p r) :=
  (cascade_dues s byReset p r).trans (.of_eq (grant_work _ r))

theorem releaseHeld_dues (p : Port) (r : Resource) : s.DuesNothing (s.releaseHeld p r) := by
  unfold State.releaseHeld
  split_ifs
  · exact giveUp_dues s true p r
  · exact .refl s

theorem leaveLists_work (p : Port) : (s.leaveLists p).work = s.work := rfl

theorem releaseAll_dues (p : Port) : s.DuesNothing (s.releaseAll p) :=
  (DuesNothing.foldl (fun s r => releaseHeld_dues s p r) (List.finRange 17) s).trans (.of_eq (leaveLists_work _ p))

theorem abortOwn_work (p : Port) : (s.abortOwn p).work = s.work := by
  unfold State.abortOwn
  split
  · split_ifs
    · exact abortCalibration_work s _
    · rfl
  · rfl

theorem clearPort_work (p : Port) : (s.clearPort p).work = s.work := rfl

theorem portReset_dues (p : Port) : s.DuesNothing (s.portReset p) := by
  unfold State.portReset
  exact (releaseAll_dues s p).trans
    (.of_eq (((clearPort_work _ p).trans (abortOwn_work _ p)).trans (removeWhere_work _ _)))

theorem calRunEnd_work : s.calRunEnd.work = s.work := by
  unfold State.calRunEnd
  split <;> rfl

theorem engine_work : s.calStepStart.work = s.work ∧ s.calLeadingEdge.work = s.work ∧ s.calTrailingEdge.work = s.work
    ∧ s.calTrialJudged.work = s.work ∧ s.calStepJudged.work = s.work := by
  unfold State.calStepStart State.calLeadingEdge State.calTrailingEdge State.calTrialJudged State.calStepJudged
  refine ⟨?_, ?_, ?_, ?_, ?_⟩ <;> split <;> rfl

/-- The effect of a step makes no step due. -/
theorem perform_dues (e : Event) : s.DuesNothing (s.perform e) := by
  cases e with
  | crossing => exact .of_eq (crossing_work s)
  | windowEnd => exact .of_eq (windowEnd_work s)
  | waveCompletion l => exact .of_eq (waveCompletion_work s l)
  | calStepStart => exact .of_eq (engine_work s).1
  | calLeadingEdge => exact .of_eq (engine_work s).2.1
  | calTrailingEdge => exact .of_eq (engine_work s).2.2.1
  | calTrialJudged => exact .of_eq (engine_work s).2.2.2.1
  | calStepJudged => exact .of_eq (engine_work s).2.2.2.2
  | calRunEnd => exact .of_eq (calRunEnd_work s)
  | edgeAccepted i => exact edgeAccepted_dues s i
  | refpEdge => exact refpEdge_dues s
  | portResetTaken p => exact portReset_dues s p
  | slewDone => exact .of_eq rfl
  | pulseEnd l => exact .of_eq rfl
  | waveHighEnd l => exact .of_eq rfl
  | waveCycleEnd l => exact .of_eq rfl

/-! ### Taking and settling -/

theorem takeOne_of_not_due {s : State} {e : Event} (h : e ∉ s.work) : s.takeOne e = s := by
  simp [State.takeOne, h]

theorem takeOne_of_due {s : State} {e : Event} (h : e ∈ s.work) :
    s.takeOne e = (s.dropWork fun d => d == e).perform e := by
  simp [State.takeOne, h]

theorem takeOne_dues (e : Event) : s.DuesNothing (s.takeOne e) := by
  by_cases h : e ∈ s.work
  · rw [takeOne_of_due h]
    exact (dropWork_dues s _).trans (perform_dues _ e)
  · rw [takeOne_of_not_due h]
    exact .refl s

/-- A step that has been taken is due no longer. -/
theorem not_mem_takeOne (e : Event) : e ∉ (s.takeOne e).work := by
  by_cases h : e ∈ s.work
  · rw [takeOne_of_due h]
    intro m
    have := (perform_dues (s.dropWork fun d => d == e) e).subset m
    simp at this
  · rwa [takeOne_of_not_due h]

theorem takeAll_dues (es : List Event) : s.DuesNothing (es.foldl State.takeOne s) := DuesNothing.foldl takeOne_dues es s

theorem not_mem_takeAll (es : List Event) : ∀ (s : State), ∀ e ∈ es, e ∉ (es.foldl State.takeOne s).work := by
  induction es with
  | nil => simp
  | cons d es ih =>
    intro s e he
    rcases List.mem_cons.mp he with rfl | h
    · exact fun m => not_mem_takeOne s e ((takeAll_dues (s.takeOne e) es).subset m)
    · exact ih (s.takeOne d) e h

/-- After settling no step is due. -/
@[simp] theorem settle_work : s.settle.work = [] :=
  List.eq_nil_iff_forall_not_mem.mpr fun e m =>
    not_mem_takeAll s.work s e ((takeAll_dues s s.work).subset m) m

/-- With nothing due, settling changes nothing. -/
theorem settle_of_idle {s : State} (h : s.work = []) : s.settle = s := by
  simp [State.settle, h]

@[simp] theorem settle_settle : s.settle.settle = s.settle := settle_of_idle s.settle_work

theorem endJudgedRun_of_not_ending {s : State} (h : s.runEnding = false) : s.endJudgedRun = s := by
  simp [State.endJudgedRun, h]

theorem endJudgedRun_dues : s.DuesNothing s.endJudgedRun := by
  unfold State.endJudgedRun
  split_ifs
  · exact takeOne_dues s _
  · exact .refl s

theorem tellSlewDone_dues (before : State) : s.DuesNothing (s.tellSlewDone before) := by
  unfold State.tellSlewDone
  split_ifs
  · exact takeOne_dues s _
  · exact .refl s

/-- A tick whose counting ended no slew tells nothing. -/
theorem tellSlewDone_of_not_due {s : State} (before : State) (h : Event.slewDone ∉ s.work) : s.tellSlewDone before = s := by
  simp [State.tellSlewDone, takeOne_of_not_due h]

theorem prepare_dues (e : Event) : s.DuesNothing (s.prepare e) := by
  unfold State.prepare
  split_ifs
  · exact (endJudgedRun_dues s).trans (takeAll_dues _ _)
  · exact takeAll_dues s _

/-- With none of the steps due that come before it, nothing is taken before a step. -/
theorem prepare_of_free {s : State} {e : Event} (k : ∀ d ∈ stepsBefore e, d ∉ s.work)
    (r : mayAbort e = true → s.runEnding = false) : s.prepare e = s := by
  have skip : ∀ es : List Event, (∀ d ∈ es, d ∉ s.work) → es.foldl State.takeOne s = s := by
    intro es
    induction es with
    | nil => simp
    | cons d es ih =>
      intro hd
      rw [List.foldl_cons, takeOne_of_not_due (hd d (by simp))]
      exact ih fun x hx => hd x (by simp [hx])
  unfold State.prepare
  split_ifs with h
  · rw [endJudgedRun_of_not_ending (r h), skip _ k]
  · rw [skip _ k]

theorem takeEvent_of_not_due {s : State} {e : Event} (h : e ∉ s.work) : s.takeEvent e = s := by
  simp [State.takeEvent, h]

/-- A due step before which no other due step comes is taken by itself. -/
theorem takeEvent_of_due {s : State} {e : Event} (h : e ∈ s.work) (k : ∀ d ∈ stepsBefore e, d ∉ s.work)
    (r : mayAbort e = true → s.runEnding = false) :
    s.takeEvent e = (s.dropWork fun d => d == e).perform e := by
  simp [State.takeEvent, h, prepare_of_free k r, takeOne_of_due h]

end State

/-! ### Frames -/

/-- A frame on a port that can take it, of a length it can hold, is handled on the settled state. -/
theorem takeFrame_taken {p : Port} {args : List Byte} {s : State} (k : State → State)
    (h : s.settle.receiving p = true) (n : args.length ≤ 24) : takeFrame p args k s = .next (k s.settle) := by
  simp [takeFrame, h, Config.maxArguments, Nat.not_lt.mpr n]

theorem takeFrame_ignored {p : Port} {s : State} (args : List Byte) (k : State → State)
    (h : s.settle.receiving p = false) : takeFrame p args k s = .next s.settle := by
  simp [takeFrame, h]

/-- A command of the right length, on a port that can take it: the block's answer is sent. -/
theorem takeCommand_taken {p : Port} {len : Nat} {args : List Byte} {s : State} (body : State → Answer)
    (h : s.settle.receiving p = true) (n : args.length = len) (m : len ≤ 24) :
    takeCommand p len args body s
      = .next ((body s.settle).state.respond p (body s.settle).status (body s.settle).payload) := by
  rw [takeCommand, takeFrame_taken _ h (by omega)]
  simp [answerCommand, n]

/-- A command of a wrong length is answered BAD_ARG and seen by no block (R166). -/
theorem takeCommand_wrongLength {p : Port} {len : Nat} {args : List Byte} {s : State} (body : State → Answer)
    (h : s.settle.receiving p = true) (n : args.length ≠ len) (m : args.length ≤ 24) :
    takeCommand p len args body s = .next (s.settle.respond p .badArg []) := by
  rw [takeCommand, takeFrame_taken _ h m]
  simp [answerCommand, n]

/-- All a command frame can do. -/
theorem takeCommand_cases (p : Port) (len : Nat) (args : List Byte) (body : State → Answer) (s : State) :
    takeCommand p len args body s = .next s.settle
    ∨ takeCommand p len args body s = .next (s.settle.overlong p)
    ∨ takeCommand p len args body s = .next (s.settle.respond p .badArg [])
    ∨ (args.length = len ∧ takeCommand p len args body s
        = .next ((body s.settle).state.respond p (body s.settle).status (body s.settle).payload)) := by
  unfold takeCommand takeFrame answerCommand
  dsimp only
  split_ifs with h n m
  · exact .inr (.inl rfl)
  · exact .inr (.inr (.inr ⟨m, rfl⟩))
  · exact .inr (.inr (.inl rfl))
  · exact .inl rfl

end Sys2Proof.Machine
end

