-- ==== Sys2Proof/WellFormed.lean ====
section
/-! DEFINITION. Which commands are well formed: the conditions under which the row's name fits its operands. -/

namespace Sys2Proof

open Sys2Proof.Machine

/-- A frame's arguments: at most 24 bytes (R165). -/
def argumentsFit (args : List Byte) : Bool := decide (args.length ≤ Config.maxArguments)

/-- The operands are ones for which the row can happen: at most 24 argument bytes (R165), an unknown code in BAD_COMMAND
and a wrong check byte in BAD_FRAME (R166), a length over 24 in ARGUMENT_LENGTH_OVER_24 (R165), and in PRESCALER_TICK
an order that names only steps that may precede the check, none twice, and raw changes in order of time (R124). -/
def Instr.wellFormed : Instr → Bool
  | .identify _ args => argumentsFit args
  | .readStatus _ args => argumentsFit args
  | .portReset _ args => argumentsFit args
  | .portResetTaken _ => true
  | .readTime _ args => argumentsFit args
  | .hold _ args => argumentsFit args
  | .loadTime _ args => argumentsFit args
  | .run _ args => argumentsFit args
  | .setTrim _ args => argumentsFit args
  | .slew _ args => argumentsFit args
  | .setReference _ args => argumentsFit args
  | .readReference _ args => argumentsFit args
  | .claim _ args => argumentsFit args
  | .release _ args => argumentsFit args
  | .queryClaims _ args => argumentsFit args
  | .schedule _ args => argumentsFit args
  | .cancel _ args => argumentsFit args
  | .queryEntry _ args => argumentsFit args
  | .listEntries _ args => argumentsFit args
  | .configureLine _ args => argumentsFit args
  | .readLine _ args => argumentsFit args
  | .configureInput _ args => argumentsFit args
  | .subscribe _ args => argumentsFit args
  | .readCaptures _ args => argumentsFit args
  | .readCounters _ args => argumentsFit args
  | .clearCounter _ args => argumentsFit args
  | .calibrate _ args => argumentsFit args
  | .readCalibration _ args => argumentsFit args
  | .takeNotices _ args => argumentsFit args
  | .setAttention _ args => argumentsFit args
  | .badCommand _ code args => argumentsFit args && !commandCodes.contains code
  | .badFrame _ code args check => argumentsFit args && check != crc8 (frameBody code args)
  | .pncsFall _ => true
  | .pncsRise _ _ => true
  | .argumentLengthOver24 _ _ length => decide (Config.maxArguments < length.toNat)
  | .pnrstFall _ => true
  | .pnrstRise _ => true
  | .deviceReset _ => true
  | .nrstRise => true
  | .retainedReset => true
  | .mainSupplyLoss => true
  | .vddrLoss => true
  | .prescalerTick samples order =>
    order.early.all mayPrecedeCheck && decide order.early.Nodup
      && samples.changes.toList.all fun phases => decide (phases.Pairwise fun a b => a ≤ b)
  | .slewDone => true
  | .windowEnd => true
  | .pulseEnd _ => true
  | .waveHighEnd _ => true
  | .waveCycleEnd _ => true
  | .waveCompletion _ => true
  | .refpEdge => true
  | .crossing => true
  | .edgeAccepted _ => true
  | .calStepStart => true
  | .calLeadingEdge => true
  | .calTrialJudged => true
  | .calTrailingEdge => true
  | .calStepJudged => true
  | .calRunEnd => true
  | .lastResponseByteSent _ => true

end Sys2Proof
end

