-- ==== Sys2Proof/Tests/Slice0.lean ====
section
/-! SUPPORT. Tests: ill-formed terms that the check refuses, one small run of each command, and for each statement with
hypotheses a state and operands that meet them (test_meets_<statement>). -/

namespace Sys2Proof.Tests

set_option Elab.async false

open Sys2Proof.Machine Sys2Proof.Safety

/-! ### States for the tests -/

/-- The state after a command. -/
def after (c : Instr) (s : State) : State :=
  match exec c s with
  | .next t => t
  | _ => s

/-- The response frame port 0 is sending, its check byte left off. -/
def answer (s : State) : List Byte := s.ports[0].response.dropLast

/-- A RUNNING part at 5:100: port 0 has a transaction open and holds line 0, input 0 and TIME; port 1 holds line 1 and
input 1. -/
def live : State :=
  { State.reset with
    timebase := .running
    time := timeOf 5 100
    claims := each State.reset.claims fun r c =>
      if r = 0 ∨ r = 8 ∨ r = 16 then { c with holder := some 0 }
      else if r = 1 ∨ r = 9 then { c with holder := some 1 } else c
    ports := upd State.reset.ports 0 fun c => { c with csLow := true, rx := .command } }

/-- The same, HELD. -/
def held : State := { live with timebase := .held }

/-- One-shot TOGGLE of line 0 for port 0, due at 5:100. -/
def toggle : Entry :=
  { owner := 0, job := .act 0 .toggle, form := .timed, due := some (timeOf 5 100), series := none
    remaining := .finite 1, late := .fire, notify := .all, tag := 7 }

/-- An ARMED MARK of port 0 on input 0 with Offset 6, rearming. -/
def armedMark : Entry :=
  { owner := 0, job := .mark, form := .armed 0 6 true, due := none, series := none, remaining := .finite 1, late := .drop
    notify := .never, tag := 8 }

/-- The part with the toggle in slot 3 and the armed mark in slot 4. -/
def table : State :=
  { live with
    slots := each live.slots fun k x => if k = 3 then some toggle else if k = 4 then some armedMark else x
    dueOrder := [3] }

/-- The part with steps due. -/
def owing (es : List Event) (s : State) : State := { s with work := es }

/-- Port 0 calibrates line 0 with input 0; the engine count is 4095, and trials 0 to 3 of the step passed. -/
def run0 : CalRun :=
  { requester := 0, line := 0, input := 0, savedDelay := 3, count := 4095, begun := true
    trials := Vector.replicate 4 (some true), passMask := 0 }

/-- The part with that run. -/
def calibrating : State :=
  { live with calRun := some run0, lines := upd live.lines 0 fun ln => { ln with activity := .calibrating, fineDelay := 0 } }

/-- The part with an activity on line 0. -/
def acting (a : Activity) : State :=
  { live with lines := upd live.lines 0 fun ln => { ln with activity := a, level := true, waveDone := true } }

/-- A wave of period 8 and high time 3 in its second cycle of two. -/
def wave : WaveCopy := { period := 8, high := 3, idle := false, left := .finite 1, position := 7 }

/-- The part with the reference in a state, an edge at an offset, and the window 16 to 20. -/
def disciplined (r : RefState) (edge : TimeValue) : State :=
  { live with rdu := { live.rdu with state := r, enable := true, wide := 20, narrow := 16, edgeTime := edge } }

/-- Samples with every input at one level, each raw input having bounced at phases 3, 7 and 11. -/
def samples (high refp : Bool) : TickInput :=
  { levels := if high then 255 else 0, changes := Vector.replicate 8 [3, 7, 11], refp := refp }

/-- The order a sender that chooses none leaves. -/
def plain : TickOrder := { early := [], refpAfter := false }

/-! ### Ill-formed commands -/

theorem test_wf_arguments_fit : (Instr.schedule 0 (List.replicate 24 0)).wellFormed = true := by decide +kernel
theorem test_wf_too_many_arguments : (Instr.schedule 0 (List.replicate 25 0)).wellFormed = false := by decide +kernel
theorem test_wf_identify_too_long : (Instr.identify 0 (List.replicate 25 0)).wellFormed = false := by decide +kernel
theorem test_wf_known_code : (Instr.badCommand 0 0x10 []).wellFormed = false := by decide +kernel
theorem test_wf_unknown_code : (Instr.badCommand 0 0x04 []).wellFormed = true := by decide +kernel
theorem test_wf_right_check : (Instr.badFrame 0 0x10 [] 0x57).wellFormed = false := by decide +kernel
theorem test_wf_wrong_check : (Instr.badFrame 0 0x10 [] 0x58).wellFormed = true := by decide +kernel
theorem test_wf_length_24 : (Instr.argumentLengthOver24 0 0x30 24).wellFormed = false := by decide +kernel
theorem test_wf_length_25 : (Instr.argumentLengthOver24 0 0x30 25).wellFormed = true := by decide +kernel
theorem test_wf_refp_edge_never_early :
    (Instr.prescalerTick (samples false false) { early := [.refpEdge], refpAfter := false }).wellFormed = false := by
  decide +kernel
theorem test_wf_port_reset_never_early :
    (Instr.prescalerTick (samples false false) { early := [.portResetTaken 1], refpAfter := false }).wellFormed = false := by
  decide +kernel
theorem test_wf_early_twice :
    (Instr.prescalerTick (samples false false) { early := [.pulseEnd 0, .pulseEnd 0], refpAfter := false }).wellFormed
      = false := by
  decide +kernel
theorem test_wf_changes_out_of_order :
    (Instr.prescalerTick { samples false false with changes := Vector.replicate 8 [7, 3] } plain).wellFormed = false := by
  decide +kernel
theorem test_no_word_spells_a_command : decodeTableWord 8 0x10 = none := by decide

/-! ### One small run of each command -/

theorem test_identify : answer (after (.identify 0 []) live) = [0, 6, 0x0A, 0x3C, 0x04, 0x16, 0x01, 0] := by decide +kernel
theorem test_read_status : answer (after (.readStatus 0 [0]) live)
    = [0, 18, 2, 0, 0, 0, 0, 0, 0, 0, 0, 0, 0, 0, 0, 0, 0, 0, 0, 0xFF] := by decide +kernel
theorem test_port_reset : (after (.portReset 0 []) live).ports[0].resetPending = true := by decide +kernel
theorem test_port_reset_taken :
    (after (.portResetTaken 0) (owing [.portResetTaken 0] live)).claims[16].holder = none := by decide +kernel
theorem test_read_time : answer (after (.readTime 0 []) live) = [0, 8, 2, 0, 0, 0, 5, 0, 0, 100] := by decide +kernel
theorem test_hold : (after (.hold 0 []) live).timebase = .held
    ∧ (after (.hold 0 []) live).ports[3].queue = [broadcastNotice .timeChanged (timeOf 5 100) 0] := by decide +kernel
theorem test_load_time : (after (.loadTime 0 (timeBytes (timeOf 4294967295 1048575))) held).time
    = timeOf 4294967295 1048575 := by decide +kernel
theorem test_run : (after (.run 0 []) held).timebase = .running ∧ (after (.run 0 []) held).marker = true := by
  decide +kernel
theorem test_set_trim : (after (.setTrim 0 [0xFC, 0x00]) live).trim = -1024
    ∧ answer (after (.setTrim 0 [0xFB, 0xFF]) live) = [4, 0] := by decide +kernel
theorem test_slew : (after (.slew 0 [0xF8, 0x00, 0x00]) live).slew = -524288
    ∧ answer (after (.slew 0 [0, 0, 0]) live) = [4, 0] := by decide +kernel
theorem test_set_reference : (after (.setReference 0 [1, 7, 0xFF, 0xFF, 0, 0, 16]) live).rdu.state = .searching
    ∧ answer (after (.setReference 0 [1, 0, 0, 16, 0, 0, 17]) live) = [4, 0] := by decide +kernel
theorem test_read_reference : (answer (after (.readReference 0 []) live)).take 8 = [0, 24, 0, 0, 0, 0x80, 0, 0] := by
  decide +kernel
theorem test_claim : (after (.claim 0 [1, 1]) live).claims[1].waiters = [0]
    ∧ answer (after (.claim 0 [1, 0]) live) = [6, 1, 1] := by decide +kernel
theorem test_release : (after (.release 0 [16]) live).claims[16].holder = none
    ∧ answer (after (.release 0 [17]) live) = [4, 0] := by decide +kernel
theorem test_query_claims : (answer (after (.queryClaims 0 []) live)).take 6 = [0, 68, 0, 0xFF, 0xFF, 0xFF] := by
  decide +kernel
theorem test_schedule : (after (.schedule 0 [2, 0, 2, 0, 0, 0, 0, 6, 0, 0, 0, 0, 0, 0, 0, 0, 0, 0, 0, 0, 0, 7]) live).dueOrder
    = [0] := by decide +kernel
theorem test_schedule_bad : answer (after (.schedule 0 [7, 0, 2, 0, 0, 0, 0, 6, 0, 0, 0, 0, 0, 0, 0, 0, 0, 0, 0, 0, 0, 7]) live)
    = [4, 0] := by decide +kernel
theorem test_cancel : (after (.cancel 0 [0, 3]) table).slots[3] = none ∧ (after (.cancel 0 [0, 3]) table).gens[3] = 1 := by
  decide +kernel
theorem test_query_entry : (answer (after (.queryEntry 0 [0, 3]) table)).take 9 = [0, 30, 0, 3, 1, 2, 0, 10, 0] := by
  decide +kernel
theorem test_list_entries : answer (after (.listEntries 0 []) table) = [0, 6, 0, 3, 1, 0, 4, 0] := by decide +kernel
theorem test_configure_line :
    (after (.configureLine 0 [0, 1, 15, 0, 0, 2, 0, 0, 1, 0, 0]) live).lines[0].fineDelay = 15 := by decide +kernel
theorem test_read_line : (answer (after (.readLine 0 [7]) live)).take 6 = [0, 26, 7, 0, 0, 0] := by decide +kernel
theorem test_configure_input : (after (.configureInput 0 [0, 3, 8]) live).inputs[0].filter = .eight := by decide +kernel
theorem test_subscribe : answer (after (.subscribe 0 [1, 1]) live) = [0, 4, 0, 0, 0, 0] := by decide +kernel
theorem test_read_captures : answer (after (.readCaptures 0 [4]) live) = [0, 10, 0, 0, 0, 0, 0, 0, 0, 0, 0, 0] := by
  decide +kernel
theorem test_read_counters : (answer (after (.readCounters 0 []) live)).take 7 = [0, 40, 0, 0, 0, 0, 0] := by decide +kernel
theorem test_clear_counter : answer (after (.clearCounter 0 [0]) live) = [0, 4, 0, 0, 0, 0]
    ∧ answer (after (.clearCounter 0 [1]) live) = [5, 0] := by decide +kernel
theorem test_calibrate : (after (.calibrate 0 [0, 0]) live).lines[0].activity = .calibrating
    ∧ answer (after (.calibrate 0 [0, 1]) live) = [5, 0] := by decide +kernel
theorem test_read_calibration : (answer (after (.readCalibration 0 [0]) calibrating)).drop 10 = [1, 3, 0, 0, 0, 0] := by
  decide +kernel
theorem test_take_notices : answer (after (.takeNotices 0 [4]) live) = [0, 3, 0, 0, 0] := by decide +kernel
theorem test_set_attention : (after (.setAttention 0 [7]) live).ports[0].mask = 7
    ∧ answer (after (.setAttention 0 [8]) live) = [4, 0] := by decide +kernel
theorem test_bad_command : answer (after (.badCommand 0 0x04 []) live) = [3, 0] := by decide +kernel
theorem test_bad_frame : (after (.badFrame 0 0x10 [] 0x58) live).ports[0].frameErrors = 1
    ∧ (after (.badFrame 0 0x10 [] 0x58) live).ports[0].response = [2, 0, 0x2A] := by decide +kernel
theorem test_pncs_fall : (after (.pncsFall 1) live).ports[1].rx = .command := by decide +kernel
theorem test_pncs_rise : (after (.pncsRise 0 true) live).ports[0].frameErrors = 1
    ∧ (after (.pncsRise 0 false) live).ports[0].frameErrors = 0 := by decide +kernel
theorem test_argument_length_over_24 : (after (.argumentLengthOver24 0 0x30 25) live).ports[0].rx = .trailing := by
  decide +kernel
theorem test_pnrst_fall : (after (.pnrstFall 0) live).claims[0].holder = none
    ∧ (after (.pnrstFall 0) live).ports[0].inReset = true := by decide +kernel
theorem test_pnrst_rise : (after (.pnrstRise 0) (after (.pnrstFall 0) live)).ports[0].inReset = false := by decide +kernel
theorem test_device_reset : (after (.deviceReset .nrstLow) live).time = timeOf 5 100
    ∧ (after (.deviceReset .nrstLow) live).claims[0].holder = none := by decide +kernel
theorem test_nrst_rise : (after .nrstRise (after (.deviceReset .nrstLow) live)).active = true := by decide +kernel
theorem test_retained_reset : (after .retainedReset live).timebase = .unset := by decide +kernel
theorem test_main_supply_loss : (after .mainSupplyLoss live).timebase = .running
    ∧ (after .mainSupplyLoss live).active = false := by decide +kernel
theorem test_vddr_loss : (after .vddrLoss live).vddr = false := by decide +kernel
theorem test_prescaler_tick : (after (.prescalerTick (samples false false) plain) live).time = timeOf 5 101
    ∧ (after (.prescalerTick (samples false false) plain) held).time = timeOf 5 100 := by decide +kernel
theorem test_tick_fires : (after (.prescalerTick (samples false false) plain) table).lines[0].level = true
    ∧ (after (.prescalerTick (samples false false) plain) table).slots[3] = none := by decide +kernel
theorem test_last_bounce_recorded : (after (.prescalerTick (samples false false) plain) live).inputs[2].lastChange = some 11
    ∧ detectPhase [] = none := by decide +kernel
theorem test_slew_done : (after .slewDone (owing [.slewDone] live)).ports[2].queue.length = 1 := by decide +kernel
theorem test_window_end :
    (after .windowEnd (owing [.windowEnd] { live with rdu := { live.rdu with sum := 40 } })).rdu.lastSum = 40 := by
  decide +kernel
theorem test_pulse_end : (after (.pulseEnd 0) (owing [.pulseEnd 0] (acting (.pulsing 1)))).lines[0].level = false := by
  decide +kernel
theorem test_wave_high_end : (after (.waveHighEnd 0) (owing [.waveHighEnd 0] (acting (.waving wave)))).lines[0].level
    = false := by decide +kernel
theorem test_wave_cycle_end : (after (.waveCycleEnd 0) (owing [.waveCycleEnd 0] (acting (.waving wave)))).lines[0].level
    = true := by decide +kernel
theorem test_wave_completion : (after (.waveCompletion 0) (owing [.waveCompletion 0] (acting (.waving wave)))).ports[0].queue
    = [broadcastNotice .waveDone 0 0] := by decide +kernel
theorem test_refp_edge : (after .refpEdge (owing [.refpEdge] (disciplined .locked (timeOf 5 16)))).time = timeOf 5 84
    ∧ (after .refpEdge (owing [.refpEdge] (disciplined .locked (timeOf 5 17)))).rdu.strays = 1 := by decide +kernel
theorem test_crossing : (after .crossing (owing [.crossing] (disciplined .locked 0))).rdu.state = .holdover := by
  decide +kernel
theorem test_edge_accepted :
    (after (.edgeAccepted 0) (owing [.edgeAccepted 0] { live with inputs := upd live.inputs 0 fun ch =>
      { ch with edgeSelect := .rising
                ready := some { time := timeOf 5 100, phase := 6, notRunning := false, refLocked := false } } })).log.length
      = 1 := by
  decide +kernel
theorem test_cal_step_start : (after .calStepStart (owing [.calStepStart] { calibrating with
    calRun := some { run0 with count := 61440 } })).lines[0].fineDelay = 15 := by decide +kernel
theorem test_cal_leading_edge : (after .calLeadingEdge (owing [.calLeadingEdge] calibrating)).lines[0].level = true := by
  decide +kernel
theorem test_cal_trial_judged : ((after .calTrialJudged (owing [.calTrialJudged] { calibrating with
    calRun := some { run0 with count := 258 } })).calRun.map fun c => c.trials[0]) = some (some false) := by decide +kernel
theorem test_cal_trailing_edge : (after .calTrailingEdge (owing [.calTrailingEdge] calibrating)).lines[0].level = false := by
  decide +kernel
theorem test_cal_step_judged : ((after .calStepJudged (owing [.calStepJudged] calibrating)).calRun.map CalRun.passMask)
    = some 1 := by decide +kernel
theorem test_cal_run_end : (after .calRunEnd (owing [.calRunEnd] { calibrating with
    calRun := some { run0 with passMask := 0x03FF } })).lines[0].fineDelay = 4 := by decide +kernel
/-- A slew of one tick ends at the coming tick, and the toggle of slot 3 is due then. -/
def slewing : State := { table with time := timeOf 5 98, position := 8, slew := 1 }

theorem test_slew_done_before_the_check :
    (after (.prescalerTick (samples false false) plain) slewing).ports[0].queue.map Notice.kind = [.timeChanged, .fired]
    ∧ (after (.prescalerTick (samples false false) plain) { slewing with slew := -1 }).work = [.slewDone] := by
  decide +kernel

/-- An edge of input 1 is due whose trigger fires a SET on the calibrated line at once, with the work of engine tick 65,535
due as well. -/
def closing (es : List Event) : State :=
  { calibrating with
    calRun := some { run0 with count := 65535 }, work := es ++ [.edgeAccepted 1]
    slots := each live.slots fun k x => if k = 5 then some { armedMark with job := .act 0 .set, form := .armed 1 0 false } else x
    inputs := upd live.inputs 1 fun ch =>
      { ch with edgeSelect := .rising
                ready := some { time := timeOf 5 100, phase := 11, notRunning := false, refLocked := false } } }

theorem test_judged_run_ends_before_abort :
    (after (.edgeAccepted 1) (after .calStepJudged (closing [.calStepJudged, .calRunEnd]))).results[0].outcome = .pass := by
  decide +kernel
theorem test_abort_before_judging :
    (after (.edgeAccepted 1) (closing [.calStepJudged, .calRunEnd])).results[0]
      = abortedRecord { run0 with count := 65535 } .action := by decide +kernel

/-- An edge at offset 16, the narrow window, is due, and the next tick passes the window with the crossing due. -/
def late : State :=
  owing [.refpEdge] { disciplined .locked (timeOf 5 16) with
    time := timeOf 5 16, rdu := { (disciplined .locked (timeOf 5 16)).rdu with crossingDue := true } }

theorem test_edge_left_for_after_the_count :
    (after (.prescalerTick (samples false false) { early := [], refpAfter := true }) late).settle.rdu.state = .locked
    ∧ (after (.prescalerTick (samples false false) { early := [], refpAfter := true }) late).time = timeOf 5 1
    ∧ (after (.prescalerTick (samples false false) { early := [.crossing], refpAfter := true }) late).ports[3].queue.length
      = 2 := by decide +kernel
theorem test_last_response_byte_sent :
    (after (.lastResponseByteSent 0) (after (.portReset 0 []) live)).work = [.portResetTaken 0] := by decide +kernel

/-! ### What the statements assume can be met -/

/-- The table full of the armed mark, port 0 holding the lowest 24 entries, port 1 the rest. -/
def full : State :=
  { live with slots := each live.slots fun k _ => some (if k.val < 24 then armedMark else { armedMark with owner := 1 }) }

/-- Port 0 with 24 entries, the slots above them empty. -/
def quota : State := { live with slots := each live.slots fun k x => if k.val < 24 then some armedMark else x }

/-- A record of input 0. -/
def record (seq : Seq) : CaptureRecord :=
  { seq := seq, input := 0, rising := true, time := timeOf 5 90, phase := 6, notRunning := false, refLocked := false
    stepped := false }

/-- The log with three records, port 0 subscribed to input 0 and yet to examine all of them. -/
def logged : State :=
  { live with
    log := [record 0, { record 1 with input := 3 }, record 2], nextSeq := 3
    ports := upd live.ports 0 fun c => { c with subscription := 1, capture := true } }

/-- A full queue on port 0. -/
def crowded : State :=
  { live with ports := upd live.ports 0 fun c =>
      { c with queue := List.replicate 16 (broadcastNotice .timeChanged 0 0), notice := true } }

theorem test_meets_queue : ({ live with pending := [.nrstRise] } : State).pending = .nrstRise :: []
    ∧ live.pending = [] ∧ settlesFirst .nrstRise = true ∧ eventOf .slewDone = some .slewDone
    ∧ Event.slewDone ∉ live.work := by decide +kernel

theorem test_meets_receiving : live.settle.receiving 0 = true ∧ held.settle.receiving 0 = true
    ∧ table.settle.receiving 0 = true ∧ logged.settle.receiving 0 = true ∧ live.settle.receiving 3 = false := by
  decide +kernel

theorem test_meets_port_resets : ClaimsOk live ∧ live.work = [] ∧ live.active = true ∧ live.ports[0].rstLow = false
    ∧ Event.portResetTaken 0 ∈ (owing [.portResetTaken 0] live).work
    ∧ (after (.pnrstFall 0) live).settle.ports[0].rstLow = true
    ∧ (live.dropWork fun e => e == .portResetTaken 0).settle = live
    ∧ ((after (.deviceReset .nrstLow) live).dropWork fun e => e == .portResetTaken 0).settle.active = false := by
  unfold ClaimsOk
  decide +kernel

theorem calibratingOk (s : State) (c : s.calRun = some run0) (l : s.lines = calibrating.lines) (t : s.timebase = .running)
    (h : s.claims = live.claims) : CalibrationOk s := by
  refine ⟨?_, ?_⟩
  · intro r hr
    have : r = run0 := Option.some.inj (hr.symm.trans c)
    subst this
    rw [t, l, h]
    decide +kernel
  · have only : ∀ k : Line, calibrating.lines[k].activity = .calibrating → k = 0 := by decide +kernel
    exact fun k hk => ⟨run0, c, (only k (l ▸ hk)).symm⟩

theorem test_meets_port_reset_of_a_requester : CalibrationOk (owing [.portResetTaken 0] calibrating)
    ∧ ClaimsOk (owing [.portResetTaken 0] calibrating)
    ∧ Event.portResetTaken 0 ∈ (owing [.portResetTaken 0] calibrating).work := by
  refine ⟨calibratingOk _ rfl rfl rfl rfl, ?_, by decide⟩
  unfold ClaimsOk
  decide +kernel

theorem test_meets_due_orders : Event.refpEdge ∈ (owing [.crossing, .refpEdge] live).work
    ∧ Event.calRunEnd ∉ (owing [.crossing, .refpEdge] live).work
    ∧ Event.edgeAccepted 1 ∈ (owing [.edgeAccepted 0, .edgeAccepted 1] live).work
    ∧ (∀ h : Input, h < 0 → Event.edgeAccepted h ∉ (owing [.edgeAccepted 0, .edgeAccepted 1] live).work)
    ∧ Event.calRunEnd ∈ (closing [.calRunEnd]).work ∧ Event.calStepJudged ∉ (closing [.calRunEnd]).work
    ∧ Event.edgeAccepted 1 ∈ (closing [.calRunEnd]).work
    ∧ Event.refpEdge ∈ (owing [.calRunEnd, .refpEdge] live).work := by decide +kernel

theorem test_meets_transactions :
    live.settle.ports[1].csLow = false ∧ live.settle.active = true ∧ live.settle.ports[1].rstLow = false
    ∧ (after (.deviceReset .nrstLow) live).settle.active = false
    ∧ (after (.pnrstFall 1) live).settle.ports[1].rstLow = true
    ∧ (after (.identify 0 []) live).settle.ports[0].rx = .response ∧ live.settle.ports[0].csLow = true := by
  decide +kernel

theorem test_meets_frames_not_carried_out :
    (0x30, 22, Instr.schedule) ∈ frames ∧ (List.replicate 24 (0 : Byte)).length ≤ 24
    ∧ (List.replicate 24 (0 : Byte)).length ≠ 22 ∧ (0x58 : Byte) ≠ crc8 [0x10, 0]
    ∧ (∀ row ∈ frames, row.1 ≠ 0x04) ∧ 24 < (25 : Byte).toNat := by
  refine ⟨?_, by decide, by decide, by decide +kernel, by decide +kernel, by decide⟩
  simp [frames]

theorem test_meets_layouts : 16777215 < 256 ^ 3 ∧ (-(2 ^ (8 * 2 - 1)) : Int) ≤ -32768 ∧ (32767 : Int) < 2 ^ (8 * 2 - 1) := by
  decide

theorem test_meets_time_commands :
    live.settle.claims[timeResource].holder = some 0 ∧ live.settle.timebase = .running
    ∧ held.settle.claims[timeResource].holder = some 0 ∧ held.settle.timebase = .held ∧ held.settle.timebase ≠ .running
    ∧ live.settle.rdu.autoTrim = false ∧ live.settle.rdu.state = .off ∧ live.settle.slew = 0 := by decide +kernel

theorem test_meets_trim_and_slew_limits : (-1024 : Int) ≤ -1024 ∧ (1023 : Int) ≤ 1023 ∧ (-524288 : Int) ≤ -524288
    ∧ (524287 : Int) ≤ 524287 ∧ (524287 : Int) ≠ 0 := by decide

theorem test_meets_time_checks :
    firstFailing (timeChecks live.settle 1 [] (.hold 1 [])) = some .notHolder
    ∧ firstFailing (timeChecks held.settle 0 [] (.hold 0 [])) = some .state
    ∧ firstFailing (timeChecks live.settle 0 (timeBytes 5) (.loadTime 0 (timeBytes 5))) = some .state
    ∧ firstFailing (timeChecks live.settle 0 [] (.run 0 [])) = some .state
    ∧ firstFailing (timeChecks live.settle 0 [4, 0] (.setTrim 0 [4, 0])) = some .badArg
    ∧ firstFailing (timeChecks live.settle 0 [8, 0, 0] (.slew 0 [8, 0, 0])) = some .badArg
    ∧ firstFailing (timeChecks live.settle 0 [4, 0, 0, 16, 0, 0, 16] (.setReference 0 [4, 0, 0, 16, 0, 0, 16]))
      = some .badArg := by decide +kernel

theorem test_meets_ticks : Event.refpEdge ∉ live.work ∧ live.settle.active = true ∧ live.settle.timebase = .running
    ∧ held.settle.timebase ≠ .running ∧ State.reset.work = [] ∧ (after .vddrLoss live).work = []
    ∧ (after .vddrLoss live).vddr = false ∧ (after .mainSupplyLoss live).work = []
    ∧ (after .mainSupplyLoss live).vddr = true ∧ (after .mainSupplyLoss live).active = false
    ∧ (after .mainSupplyLoss live).timebase = .running ∧ (after .mainSupplyLoss live).slew = 0
    ∧ (after .mainSupplyLoss held).timebase ≠ .running := by decide +kernel

theorem test_meets_trim_positions : 0 % 16384 = 0 ∧ bitReverse10 (0 / 16384) < (1023 : Int).natAbs ∧ 8 % 16 = 8
    ∧ bitReverse10 1 = 512 ∧ bitReverse10 1023 = 1023 := by decide +kernel

theorem test_meets_steps_of_time : Event.slewDone ∈ (owing [.slewDone] live).work
    ∧ Event.windowEnd ∈ (owing [.windowEnd] live).work := by decide +kernel

theorem test_meets_set_reference : 16 ≤ 16 ∧ 16 ≤ 524287 ∧ 524287 ≤ 524287 ∧ live.settle.slew = 0
    ∧ held.settle.timebase ≠ .running ∧ (disciplined .locked 0).settle.rdu.state ≠ .off := by decide +kernel

theorem test_meets_offsets : (timeOf 5 524287).toNat % 2 ^ 20 < 524288 ∧ 524288 ≤ (timeOf 5 524288).toNat % 2 ^ 20 := by
  decide +kernel

theorem test_meets_edges : ∀ r : RefState,
    Event.refpEdge ∈ (owing [.refpEdge] (disciplined r (timeOf 5 16))).work
    ∧ Event.crossing ∉ (owing [.refpEdge] (disciplined r (timeOf 5 16))).work
    ∧ (disciplined r (timeOf 5 16)).rdu.state = r
    ∧ (offsetOf (disciplined r (timeOf 5 16)).rdu.edgeTime).natAbs ≤ (disciplined r 0).rdu.narrow
    ∧ (offsetOf (disciplined r (timeOf 4 1048556)).rdu.edgeTime).natAbs ≤ (disciplined r 0).rdu.wide
    ∧ (disciplined r 0).rdu.wide < (offsetOf (timeOf 4 1048555)).natAbs := by
  intro r
  cases r <;> decide +kernel

/-- HOLDOVER with a number of misses and a credit. -/
def coasting (misses : Nat) (credit : Bool) : State :=
  owing [.crossing] { live with rdu := { live.rdu with state := .holdover, misses := misses, credit := credit } }

theorem test_meets_crossings : Event.crossing ∈ (coasting 3 false).work ∧ (coasting 3 false).rdu.state = .holdover
    ∧ (coasting 3 false).rdu.credit = false ∧ (coasting 3 false).rdu.misses = 3 ∧ (coasting 2 false).rdu.misses < 3
    ∧ (coasting 3 true).rdu.credit = true ∧ Event.crossing ∈ (owing [.crossing] (disciplined .locked 0)).work
    ∧ (disciplined .locked 0).rdu.state = .locked ∧ (disciplined .locked 0).rdu.credit = false
    ∧ (disciplined .searching 0).rdu.state = .searching := by decide +kernel

theorem test_meets_claims : 16 < (17 : Byte).toNat ∧ 1 < (2 : Byte).toNat ∧ live.settle.claims[0].holder = some 0
    ∧ live.settle.claims[0].waiters = [] ∧ live.settle.claims[1].holder ≠ some 0 ∧ 0 ∉ live.settle.claims[1].waiters
    ∧ (after (.claim 0 [1, 1]) live).settle.claims[1].holder = some 1
    ∧ 0 ∈ (after (.claim 0 [1, 1]) live).settle.claims[1].waiters
    ∧ ({ live with claims := upd live.claims 0 fun c => { c with waiters := [2, 3] } } : State).settle.claims[0].waiters
      = 2 :: [3] := by decide +kernel

theorem test_meets_line_above_7 : 7 < (8 : Byte).toNat := by decide

theorem test_meets_schedule_refusals :
    State.reset.timebase = .unset ∧ live.settle.timebase ≠ .unset
    ∧ (∃ l : Line, l.val = arg [2, 1] 1 ∧ live.settle.claims[lineResource l].holder ≠ some 0)
    ∧ (∀ k : Slot, full.settle.slots[k] ≠ none) ∧ quota.settle.slots[24] = none ∧ 24 ≤ quota.settle.entryCount 0
    ∧ live.settle.slots[0] = none ∧ live.settle.entryCount 0 < 24 ∧ (arg [2, 0, 0] 2).testBit 0 = false
    ∧ (arg [2, 0, 0] 2).testBit 1 = false
    ∧ (timeField ([2, 0, 0, 0] ++ timeBytes (timeOf 5 98)) 4).toNat + 1 < live.settle.time.toNat := by decide +kernel

/-- Arguments of a timed TOGGLE of line 0 due at 5:99. -/
def toggleArgs : List Byte := [2, 0, 0, 0] ++ timeBytes (timeOf 5 99) ++ bytes 11 7

theorem test_meets_schedule : toggleArgs.length = 22 ∧ table.settle.timebase ≠ .unset ∧ ¬scheduleArgsBad toggleArgs
    ∧ (∀ l : Line, l.val = arg toggleArgs 1 → table.settle.claims[lineResource l].holder = some 0)
    ∧ table.settle.slots[0] = none ∧ table.settle.entryCount 0 < 24
    ∧ table.settle.time.toNat ≤ (timeField toggleArgs 4).toNat + 1 := by
  unfold scheduleArgsBad
  decide +kernel

theorem test_meets_entries : 63 < (64 : Byte).toNat ∧ (3 : Byte) = BitVec.ofNat 8 (3 : Slot).val
    ∧ table.settle.slots[3] = some toggle ∧ table.settle.gens[3] = 0 ∧ toggle.owner = 0 ∧ table.settle.slots[0] = none := by
  decide +kernel

theorem table_slots (k : Slot) (e : Entry) (h : table.slots[k] = some e) : k = 3 ∧ e = toggle ∨ k = 4 ∧ e = armedMark := by
  simp only [table, each_get] at h
  by_cases a : k = 3
  · simp only [a, if_true, Option.some.injEq] at h
    exact .inl ⟨a, h.symm⟩
  · by_cases b : k = 4
    · exact .inr ⟨b, (Option.some.inj (by simpa [b] using h)).symm⟩
    · simp [a, b, live, State.reset] at h

theorem test_meets_table : TableOk table ∧ table.dueOrder = 3 :: [] ∧ table.dueAt 3 ≤ (timeOf 5 100).toNat
    ∧ (timeOf 5 99).toNat < table.dueAt 3 ∧ State.reset.dueOrder = [] := by
  refine ⟨⟨⟨by decide, ?_, by decide +kernel⟩, ?_, by decide +kernel, by decide +kernel⟩, rfl, by decide +kernel,
    by decide +kernel, rfl⟩
  · intro k
    constructor
    · intro h
      have : k = 3 := by simpa [table] using h
      subst this
      exact ⟨toggle, by decide +kernel, rfl⟩
    · rintro ⟨e, h, d⟩
      rcases table_slots k e h with ⟨rfl, rfl⟩ | ⟨rfl, rfl⟩
      · simp [table]
      · simp [armedMark] at d
  · intro k e h
    rcases table_slots k e h with ⟨rfl, rfl⟩ | ⟨rfl, rfl⟩
    · simp [EntryOk, CountOk, toggle]
    · simp [EntryOk, CountOk, armedMark]

theorem test_meets_occurrence : toggle.due = some (timeOf 5 100) ∧ (timeOf 5 100).toNat ≤ (timeOf 5 100).toNat
    ∧ toggle.series = none ∧ 348576 ≤ 4 * 100000 + 1 ∧ (4 - 1) * 100000 + 1 < 348576 := by decide +kernel

/-- One below the end of the range, with a check at 0:0: lateness 2 across the wrap. -/
theorem test_meets_occurrence_at_a_wrap : 2 ^ 52 - (timeOf 4294967295 1048574).toNat + (0 : TimeValue).toNat ≤ 1 * 16 + 1 := by
  decide +kernel

theorem test_meets_equal_dues : full.slots[24] = some { armedMark with owner := 1 } ∧ full.slots[23] = some armedMark
    ∧ 3 ∈ table.dueOrder ∧ table.dueAt 3 = (timeOf 5 94 + (6 : BitVec 24).setWidth 52).toNat := by decide +kernel

theorem test_meets_triggers : table.slots[4] = some armedMark ∧ armedMark.due = none
    ∧ armedMark.form = .armed 0 6 true ∧ table.timebase = .running
    ∧ (timeOf 5 94 + (6 : BitVec 24).setWidth 52).toNat ≤ table.time.toNat := by decide +kernel

theorem test_meets_configure_line : 7 < arg [8] 0 ∧ 3 < arg [0, 4] 1 ∧ 15 < arg [0, 0, 16] 2 ∧ 2 ≤ 1048576
    ∧ 1048575 < 1048576 ∧ live.settle.claims[lineResource 0].holder = some 0
    ∧ live.settle.claims[lineResource 1].holder ≠ some 0 ∧ live.settle.lines[0].activity ≠ .calibrating
    ∧ calibrating.settle.lines[0].activity = .calibrating
    ∧ calibrating.settle.claims[lineResource 0].holder = some 0 := by decide +kernel

theorem test_meets_cascades : calibrating.calRun.any (fun c => c.line == 0) = true ∧ live.calRun = none
    ∧ (∀ c, calibrating.calRun = some c → c.input = 0) ∧ run0.input ≠ 1 := by
  refine ⟨by decide +kernel, rfl, ?_, by decide⟩
  intro c h
  rw [← Option.some.inj (show some run0 = some c from h)]
  decide

theorem test_meets_actions : calibrating.calibratesLine 0 = true ∧ live.calibratesLine 0 = false := by decide +kernel

theorem test_meets_timer_steps : (acting (.pulsing 1)).lines[0].activity = .pulsing 1
    ∧ (acting (.waving wave)).lines[0].activity = .waving wave
    ∧ (acting (.waving wave)).lines[0].waveDone = true ∧ live.lines[0].waveDone = false
    ∧ (acting (.waving wave)).claims[lineResource 0].holder = some 0
    ∧ Event.pulseEnd 0 ∈ (owing [.pulseEnd 0] live).work ∧ Event.waveHighEnd 0 ∈ (owing [.waveHighEnd 0] live).work
    ∧ Event.waveCycleEnd 0 ∈ (owing [.waveCycleEnd 0] live).work
    ∧ Event.waveCompletion 0 ∈ (owing [.waveCompletion 0] live).work := by decide +kernel

theorem test_meets_tick_order :
    (∀ e ∈ [Event.pulseEnd 0, Event.calRunEnd], e ≠ .refpEdge ∧ ∀ p, e ≠ .portResetTaken p)
    ∧ Event.refpEdge ∈ late.work ∧ ((late.work.filter fun e => e != .refpEdge).foldl State.takeOne late).active = true := by
  refine ⟨by simp, by decide +kernel, by decide +kernel⟩

/-- Every input past its first sample, with filter length 8 on input 1. -/
def sampled : State :=
  { live with inputs := each live.inputs fun i ch => { ch with fresh := false, filter := if i = 1 then .eight else .one } }

theorem test_meets_tick_timers : live.timebase = .running ∧ held.timebase ≠ .running
    ∧ (acting (.pulsing 2)).lines[0].activity = .pulsing 2 ∧ 1 < 2
    ∧ (acting (.waving { wave with position := 6 })).lines[0].activity = .waving { wave with position := 6 }
    ∧ 6 + 1 ≠ wave.high ∧ 6 + 1 < wave.period ∧ (acting (.pulsing 1)).lines[0].activity = .pulsing 1
    ∧ (acting (.waving wave)).lines[0].activity = .waving wave ∧ wave.period ≤ wave.position + 1 ∧ 2 + 1 = wave.high ∧ live.inputs[0].fresh = true ∧ sampled.inputs[0].fresh = false
    ∧ (samples false false).levels.getLsbD 0 = sampled.inputs[0].accepted
    ∧ (samples true false).levels.getLsbD 0 ≠ sampled.inputs[0].accepted ∧ sampled.inputs[0].candidate = none
    ∧ sampled.inputs[0].filter = .one ∧ sampled.inputs[1].filter = .eight := by decide +kernel

theorem test_meets_inputs : 7 < (8 : Byte).toNat ∧ 3 < (4 : Byte).toNat ∧ (3 : Byte) ∉ [(1 : Byte), 2, 4, 8]
    ∧ live.settle.claims[inputResource 0].holder = some 0 ∧ live.settle.claims[inputResource 1].holder ≠ some 0
    ∧ live.settle.diverted 0 = false ∧ calibrating.settle.diverted 0 = true
    ∧ calibrating.settle.claims[inputResource 0].holder = some 0 := by decide +kernel

theorem test_meets_log_readers :
    logged.settle.log.drop (logged.settle.log.length - (logged.settle.nextSeq - logged.settle.ports[0].cursor).toNat)
      = [record 0] ++ [{ record 1 with input := 3 }, record 2]
    ∧ ([record 0].filter fun r => logged.settle.ports[0].subscription.getLsbD r.input.val).length = (1 : Byte).toNat
    ∧ 1 ≤ (1 : Byte).toNat ∧ (4 : Byte).toNat ≤ 4 ∧ 4 < (5 : Byte).toNat ∧ 1 < (2 : Byte).toNat := by decide +kernel

/-- An edge of input 1 is due for acceptance, with a full log before it. -/
def edged : State :=
  { live with
    log := List.replicate 128 (record 0), work := [.edgeAccepted 1]
    inputs := upd live.inputs 1 fun ch =>
      { ch with edgeSelect := .both
                ready := some { time := timeOf 5 90, phase := 6, notRunning := false, refLocked := false } } }

theorem test_meets_edge_appends : Event.edgeAccepted 1 ∈ edged.work
    ∧ (∀ j : Input, j < 1 → Event.edgeAccepted j ∉ edged.work) ∧ edged.inputs[1].ready.isSome = true
    ∧ edged.diverted 1 = false ∧ edged.inputs[1].edgeSelect = .both ∧ 128 ≤ edged.log.length
    ∧ live.inputs[1].edgeSelect = .none := by decide +kernel

theorem test_meets_calibrate : live.settle.claims[lineResource 0].holder = some 0
    ∧ live.settle.claims[inputResource 0].holder = some 0 ∧ live.settle.timebase = .running ∧ live.settle.calRun = none
    ∧ live.settle.lines[0].activity = .steady ∧ calibrating.settle.calRun ≠ none ∧ held.settle.timebase ≠ .running := by
  decide +kernel

theorem test_meets_run_judged : (0x03EF : BitVec 16).getLsbD 0 = true ∧ (0x03EF : BitVec 16).getLsbD 9 = true
    ∧ (∀ k : Phase, (0x03EF : BitVec 16).getLsbD k.val = true → 0 ≤ k ∧ k ≤ 9)
    ∧ (0x03EF : BitVec 16).getLsbD 4 = false ∧ ∀ k : Phase, (0xFFFF : BitVec 16).getLsbD k.val = true := by decide +kernel

theorem test_meets_engine : calibrating.calRun = some run0 ∧ live.calRun = none
    ∧ Event.calRunEnd ∈ (owing [.calRunEnd] calibrating).work
    ∧ Event.calStepJudged ∉ (owing [.calRunEnd] calibrating).work := by decide +kernel

theorem test_meets_notices : 1 ≤ (1 : Byte).toNat ∧ (4 : Byte).toNat ≤ 4 ∧ 4 < (5 : Byte).toNat ∧ 7 < (8 : Byte).toNat
    ∧ (7 : Byte).toNat ≤ 7 ∧ (after (.pnrstFall 0) live).ports[0].inReset = true ∧ live.ports[0].inReset = false
    ∧ live.ports[0].queue.length < 16 ∧ 16 ≤ crowded.ports[0].queue.length ∧ live.vddm = true
    ∧ (after .mainSupplyLoss live).vddm = false ∧ (after (.deviceReset .nrstLow) live).vddm = true
    ∧ (after (.deviceReset .nrstLow) live).active = false ∧ (after (.identify 0 []) live).ports[0].rx = .response := by
  decide +kernel

theorem test_meets_invariants : NoticesOk crowded ∧ ClaimsOk live ∧ LogOk logged ∧ DisciplineOk (disciplined .locked 0)
    ∧ CalibrationOk calibrating ∧ step crowded = .next crowded := by
  refine ⟨?_, ?_, ?_, ?_, ?_, rfl⟩
  · unfold NoticesOk
    decide +kernel
  · unfold ClaimsOk
    decide +kernel
  · unfold LogOk
    decide +kernel
  · unfold DisciplineOk
    decide +kernel
  · exact calibratingOk _ rfl rfl rfl rfl

theorem test_meets_owners : OwnersHold table := by
  intro k e l a h j
  rcases table_slots k e h with ⟨rfl, rfl⟩ | ⟨rfl, rfl⟩
  · simp only [toggle, Job.act.injEq] at j
    rw [← j.1]
    decide +kernel
  · simp [armedMark] at j

end Sys2Proof.Tests
end

section
/-! SUPPORT. CLAIM: what it makes of the record of the resource it names, case by case of the table of R44. -/

namespace Sys2Proof

/-- A change that writes back the element it finds leaves the table. -/
theorem upd_of_fixed {α : Type} {n : Nat} (v : Vector α n) (i : Fin n) (f : α → α) (h : f v[i] = v[i]) :
    upd v i f = v := by
  rw [upd, h]
  exact Vector.set_getElem_self i.isLt

namespace Machine

/-! ### Argument bytes -/

@[simp] theorem arg_cons_zero (a : Byte) (as : List Byte) : arg (a :: as) 0 = a.toNat := rfl

@[simp] theorem arg_cons_succ (a : Byte) (as : List Byte) (k : Nat) : arg (a :: as) (k + 1) = arg as k := by
  simp [arg]

theorem indexField_of_lt {n : Nat} {args : List Byte} {k : Nat} (i : Fin n) (h : arg args k = i.val) :
    indexField n args k = some i := by
  simp [indexField, h]

theorem indexField_of_ge {n : Nat} {args : List Byte} {k : Nat} (h : n ≤ arg args k) : indexField n args k = none := by
  simp [indexField, h]

/-- The byte that names a resource reads as its number. -/
theorem resourceByte_toNat (r : Resource) : (BitVec.ofNat 8 r.val).toNat = r.val := by
  rw [BitVec.toNat_ofNat]
  omega

/-! ### The record -/

theorem State.updClaim_of_fixed (s : State) (r : Resource) (f : ClaimRecord → ClaimRecord)
    (h : f s.claims[r] = s.claims[r]) : s.updClaim r f = s := by
  rw [State.updClaim, upd_of_fixed _ _ _ h]

/-- A port that joins a waiter list stands behind all that waited before it (R44). -/
theorem placeOf_joined {p : Port} {waiters : List Port} (h : p ∉ waiters) :
    placeOf p (waiters ++ [p]) = waiters.length + 1 := by
  simp [placeOf, List.idxOf_append_of_notMem h]

/-! ### The answers of CLAIM (R43, R44) -/

section

variable {p h : Port} {r : Resource} {args : List Byte} {s : State}

theorem claim_of_bad_resource (hr : 16 < arg args 0) : claim p args s = s.refuse .badArg := by
  simp [claim, indexField_of_ge hr]

theorem claim_of_bad_flag (hf : 1 < arg args 1) : claim p args s = s.refuse .badArg := by
  unfold claim
  cases indexField 17 args 0 with
  | none => rfl
  | some r => simp [hf]

/-- A free resource becomes the port's. -/
theorem claim_of_free (hr : arg args 0 = r.val) (hf : arg args 1 ≤ 1) (free : s.claims[r].holder = none) :
    claim p args s = (s.updClaim r fun c => { c with holder := some p }).ok [] := by
  simp only [claim, indexField_of_lt r hr, Nat.not_lt.mpr hf, if_false, free]

/-- The holder's own CLAIM changes nothing. -/
theorem claim_of_own (hr : arg args 0 = r.val) (hf : arg args 1 ≤ 1) (own : s.claims[r].holder = some p) :
    claim p args s = s.ok [] := by
  simp only [claim, indexField_of_lt r hr, Nat.not_lt.mpr hf, if_false, own, if_true]

/-- Without the wait flag, a resource of another port is refused with its holder's number. -/
theorem claim_of_held (hr : arg args 0 = r.val) (hf : arg args 1 = 0) (held : s.claims[r].holder = some h)
    (other : h ≠ p) :
    claim p args s = { state := s, status := .heldBy, payload := [BitVec.ofNat 8 h.val] } := by
  simp only [claim, indexField_of_lt r hr, hf, held, other, if_true, if_false, not_lt_zero]

/-- With the wait flag, a port that waits already keeps its place. -/
theorem claim_of_waiting (hr : arg args 0 = r.val) (hf : arg args 1 = 1) (held : s.claims[r].holder = some h)
    (other : h ≠ p) (waiting : p ∈ s.claims[r].waiters) :
    claim p args s
      = { state := s, status := .queued
          payload := [BitVec.ofNat 8 h.val, BitVec.ofNat 8 (placeOf p s.claims[r].waiters)] } := by
  have kept : (s.updClaim r fun c => { c with waiters := s.claims[r].waiters }) = s :=
    s.updClaim_of_fixed r _ rfl
  simp only [claim, indexField_of_lt r hr, hf, held, other, List.contains_iff_mem.mpr waiting, kept, if_true, if_false,
    lt_irrefl, one_ne_zero]

/-- With the wait flag, a port that does not wait yet joins the list at its back. -/
theorem claim_of_joining (hr : arg args 0 = r.val) (hf : arg args 1 = 1) (held : s.claims[r].holder = some h)
    (other : h ≠ p) (absent : p ∉ s.claims[r].waiters) :
    claim p args s
      = { state := s.updClaim r fun c => { c with waiters := c.waiters ++ [p] }, status := .queued
          payload := [BitVec.ofNat 8 h.val, BitVec.ofNat 8 (s.claims[r].waiters.length + 1)] } := by
  have notThere : s.claims[r].waiters.contains p = false := by simpa using absent
  simp only [claim, indexField_of_lt r hr, hf, held, other, notThere, placeOf_joined absent, if_false, lt_irrefl,
    one_ne_zero, Bool.false_eq_true]
  rfl

end

/-- The row CLAIM with its two argument bytes, on a port that can take it, sends the answer of the Claim Table. -/
theorem exec_claim_of_answer {p : Port} {a b : Byte} {s : State} {x : Answer} (h : s.settle.receiving p = true)
    (e : claim p [a, b] s.settle = x) : exec (.claim p [a, b]) s = .next (x.state.respond p x.status x.payload) := by
  subst e
  exact takeCommand_taken _ h rfl (by decide)

/-- Settles O29, by the case of R44 the record is in. -/
theorem claimAnswers : Obligations.ClaimAnswers := by
  intro p s receiving
  refine ⟨fun a b bad => ?_, fun r wait => ?_⟩
  · have refused : claim p [a, b] s.settle = s.settle.refuse .badArg := by
      rcases bad with resource | flag
      · exact claim_of_bad_resource resource
      · exact claim_of_bad_flag flag
    exact exec_claim_of_answer receiving refused
  · have resource (b : Byte) : arg [BitVec.ofNat 8 r.val, b] 0 = r.val := resourceByte_toNat r
    have flag : arg [BitVec.ofNat 8 r.val, if wait then 1 else 0] 1 ≤ 1 := by cases wait <;> simp
    dsimp only
    cases held : s.settle.claims[r].holder with
    | none => exact exec_claim_of_answer receiving (claim_of_free (resource _) flag held)
    | some h =>
      dsimp only
      by_cases own : h = p
      · subst own
        rw [if_pos rfl]
        exact exec_claim_of_answer receiving (claim_of_own (resource _) flag held)
      rw [if_neg own]
      cases wait with
      | false => exact exec_claim_of_answer receiving (claim_of_held (resource _) rfl held own)
      | true =>
        rw [if_neg (show ¬ true = false by decide)]
        by_cases waiting : p ∈ s.settle.claims[r].waiters
        · rw [if_pos waiting]
          exact exec_claim_of_answer receiving (claim_of_waiting (resource _) rfl held own waiting)
        · rw [if_neg waiting]
          exact exec_claim_of_answer receiving (claim_of_joining (resource _) rfl held own waiting)

end Machine

end Sys2Proof
end

section
/-! SUPPORT. The result of a completed run: the lowest and highest step of a pass mask and how the mask between them is judged
(R149). -/

namespace Sys2Proof.Machine

section

variable {mask : BitVec 16} {lo hi : Phase} {saved : Phase}

/-! ### The lowest and the highest passing step -/

theorem lowestStep_zero : lowestStep 0 = none := by simp [lowestStep]

theorem highestStep_zero : highestStep 0 = none := by simp [highestStep]

/-- No step that the search meets before the least one is set. -/
theorem lowestStep_of_least (set : mask.getLsbD lo.val = true)
    (least : ∀ k : Phase, mask.getLsbD k.val = true → lo ≤ k) : lowestStep mask = some lo := by
  refine List.find?_eq_some_iff_getElem.mpr ⟨set, lo.val, by simp, by simp, fun j below => ?_⟩
  have clear : mask.getLsbD j = false := by
    by_contra bit
    exact absurd (least ⟨j, by omega⟩ (by simpa using bit)) (not_le.mpr below)
  simpa using clear

/-- The search for the highest step meets step k at place 15 - k. -/
theorem highestStep_of_greatest (set : mask.getLsbD hi.val = true)
    (greatest : ∀ k : Phase, mask.getLsbD k.val = true → k ≤ hi) : highestStep mask = some hi := by
  refine List.find?_eq_some_iff_getElem.mpr ⟨set, 15 - hi.val, by simp; omega, ?_, fun j before => ?_⟩
  · ext
    simp only [List.getElem_reverse, List.getElem_finRange, List.length_finRange, Fin.val_cast]
    omega
  · have clear : mask.getLsbD (15 - j) = false := by
      by_contra bit
      have atMost : 15 - j ≤ hi.val := greatest ⟨15 - j, by omega⟩ (by simpa using bit)
      omega
    simpa using clear

/-! ### The result and the fine delay -/

theorem judgeMask_zero : judgeMask 0 saved = (.nonePass, saved) := by
  rw [judgeMask, lowestStep_zero, highestStep_zero]

theorem judgeMask_of_full (lowest : lowestStep mask = some lo) (highest : highestStep mask = some hi)
    (full : ∀ k : Phase, lo ≤ k → k ≤ hi → mask.getLsbD k.val = true) :
    judgeMask mask saved = (.pass, ⟨(lo.val + hi.val) / 2, by omega⟩) := by
  have noneClear : ((List.finRange 16).all fun k => !(lo ≤ k && k ≤ hi) || mask.getLsbD k.val) = true := by
    simpa [or_iff_not_imp_left] using full
  have halved : Fin.ofNat 16 ((lo.val + hi.val) / 2) = ⟨(lo.val + hi.val) / 2, by omega⟩ :=
    Fin.ext (Nat.mod_eq_of_lt (by omega))
  simp only [judgeMask, lowest, highest, noneClear, halved, if_true]

theorem judgeMask_of_gap (lowest : lowestStep mask = some lo) (highest : highestStep mask = some hi)
    (gap : ∃ k : Phase, lo ≤ k ∧ k ≤ hi ∧ mask.getLsbD k.val = false) : judgeMask mask saved = (.gap, saved) := by
  have someClear : ((List.finRange 16).all fun k => !(lo ≤ k && k ≤ hi) || mask.getLsbD k.val) = false := by
    simpa [and_assoc] using gap
  simp only [judgeMask, lowest, highest, someClear, Bool.false_eq_true, if_false]

end

/-- Settles O49, by the row of the table of R149 that the mask is in. -/
theorem runIsJudged : Obligations.RunIsJudged := by
  refine ⟨⟨rfl, rfl, rfl, rfl, rfl⟩, fun saved => ⟨⟨judgeMask_zero, lowestStep_zero, highestStep_zero⟩, ?_⟩⟩
  intro mask lo hi loSet hiSet within
  have lowest := lowestStep_of_least loSet fun k bit => (within k bit).1
  have highest := highestStep_of_greatest hiSet fun k bit => (within k bit).2
  exact ⟨lowest, highest, judgeMask_of_full lowest highest, judgeMask_of_gap lowest highest⟩

end Sys2Proof.Machine
end

section
/-! SUPPORT. IDENTIFY: the six bytes it answers, and that its body leaves the state (R169). -/

namespace Sys2Proof.Machine

/-! ### Short fields -/

@[simp] theorem bytes_one (x : Nat) : bytes 1 x = [BitVec.ofNat 8 x] := by simp [bytes]

@[simp] theorem bytes_two (x : Nat) : bytes 2 x = [BitVec.ofNat 8 (x / 256), BitVec.ofNat 8 x] := by simp [bytes]

/-! ### The fixed codes of the part -/

theorem vendor_bytes : bytes 2 Config.vendor = [0x0A, 0x3C] := bytes_two _

theorem part_bytes : bytes 2 Config.part = [0x04, 0x16] := bytes_two _

theorem revision_byte : bytes 1 Config.revision = [0x01] := bytes_one _

/-! ### The answer -/

/-- The answer carries the state it was given: vendor, part, revision and the port's own number are all it says. -/
theorem identify_answer (p : Port) (s : State) :
    identify p s = s.ok [0x0A, 0x3C, 0x04, 0x16, 0x01, BitVec.ofNat 8 p.val] := by
  rw [identify, vendor_bytes, part_bytes, revision_byte, bytes_one]
  rfl

/-- The row IDENTIFY, on a port that can take it, sends the answer of the settled state. -/
theorem exec_identify_taken {p : Port} {s : State} (h : s.settle.receiving p = true) :
    exec (.identify p []) s
      = .next ((identify p s.settle).state.respond p (identify p s.settle).status (identify p s.settle).payload) :=
  takeCommand_taken _ h rfl (by decide)

/-- Settles O9: a taken frame sends the answer, and the answer is the six bytes on the settled state. -/
theorem identifyAnswers : Obligations.IdentifyAnswers := by
  intro p s receiving
  rw [exec_identify_taken receiving, identify_answer]
  rfl

end Sys2Proof.Machine
end

section
/-! SUPPORT. The rows by their kinds: a client command with its argument length and its body, a due step, or an event of the
pins, the supplies and the clock; and what the row of each kind does (R165, R166; logs 1 and 2). -/

namespace Sys2Proof.Machine

open Sys2Proof.Safety

/-! ### Client commands -/

/-- A client command: its port, the length of its arguments by the table of 11.4, the arguments sent, and what its block
makes of them. -/
structure Request where
  port : Port
  length : Nat
  args : List Byte
  body : State → Answer

/-- The client command that a row is, if it is one (11.4). -/
def requestOf : Instr → Option Request
  | .identify p args => some ⟨p, 0, args, identify p⟩
  | .readStatus p args => some ⟨p, 1, args, readStatus p args⟩
  | .portReset p args => some ⟨p, 0, args, portResetCommand p⟩
  | .readTime p args => some ⟨p, 0, args, readTime⟩
  | .hold p args => some ⟨p, 0, args, hold p⟩
  | .loadTime p args => some ⟨p, 7, args, loadTime p args⟩
  | .run p args => some ⟨p, 0, args, run p⟩
  | .setTrim p args => some ⟨p, 2, args, setTrim p args⟩
  | .slew p args => some ⟨p, 3, args, slew p args⟩
  | .setReference p args => some ⟨p, 7, args, setReference p args⟩
  | .readReference p args => some ⟨p, 0, args, readReference⟩
  | .claim p args => some ⟨p, 2, args, claim p args⟩
  | .release p args => some ⟨p, 1, args, release p args⟩
  | .queryClaims p args => some ⟨p, 0, args, queryClaims⟩
  | .schedule p args => some ⟨p, 22, args, schedule p args⟩
  | .cancel p args => some ⟨p, 2, args, cancel p args⟩
  | .queryEntry p args => some ⟨p, 2, args, queryEntry p args⟩
  | .listEntries p args => some ⟨p, 0, args, listEntries p⟩
  | .configureLine p args => some ⟨p, 11, args, configureLine p args⟩
  | .readLine p args => some ⟨p, 1, args, readLine args⟩
  | .configureInput p args => some ⟨p, 3, args, configureInput p args⟩
  | .subscribe p args => some ⟨p, 2, args, subscribe p args⟩
  | .readCaptures p args => some ⟨p, 1, args, readCaptures p args⟩
  | .readCounters p args => some ⟨p, 0, args, readCounters⟩
  | .clearCounter p args => some ⟨p, 1, args, clearCounter p args⟩
  | .calibrate p args => some ⟨p, 2, args, calibrate p args⟩
  | .readCalibration p args => some ⟨p, 1, args, readCalibration args⟩
  | .takeNotices p args => some ⟨p, 1, args, takeNotices p args⟩
  | .setAttention p args => some ⟨p, 1, args, setAttention p args⟩
  | _ => none

variable {c : Instr} {q : Request} {s : State}

/-- The row of a client command takes its frame. -/
theorem exec_of_request (h : requestOf c = some q) : exec c s = takeCommand q.port q.length q.args q.body s := by
  cases c <;> cases h <;> rfl

/-- Every length of the table of 11.4 fits a frame. -/
theorem requestLength_le (h : requestOf c = some q) : q.length ≤ 24 := by
  cases c <;> cases h <;> simp

/-- A row of the table of 11.4 is a client command of the length the table gives. -/
theorem requestOf_frames {row : Byte × Nat × (Port → List Byte → Instr)} (h : row ∈ frames) (p : Port)
    (args : List Byte) : ∃ body, requestOf (row.2.2 p args) = some ⟨p, row.2.1, args, body⟩ := by
  simp only [frames, List.mem_cons, List.not_mem_nil, or_false] at h
  rcases h with rfl | rfl | rfl | rfl | rfl | rfl | rfl | rfl | rfl | rfl | rfl | rfl | rfl | rfl | rfl | rfl | rfl
    | rfl | rfl | rfl | rfl | rfl | rfl | rfl | rfl | rfl | rfl | rfl | rfl <;> exact ⟨_, rfl⟩

/-- A client command of the right length, on a port that can take it, sends the answer of its block on the settled state. -/
theorem exec_answered (h : requestOf c = some q) (receiving : s.settle.receiving q.port = true)
    (length : q.args.length = q.length) {a : Answer} (answer : q.body s.settle = a) :
    exec c s = .next (a.state.respond q.port a.status a.payload) := by
  rw [exec_of_request h, takeCommand_taken _ receiving length (requestLength_le h), answer]

/-! ### Due steps -/

/-- The row of a due step takes that step. -/
theorem exec_of_event {e : Event} (h : eventOf c = some e) : exec c s = .next (s.takeEvent e) := by
  cases c <;> cases h <;> rfl

/-- The row of a step that is due, and before which no other due step comes, performs it alone. -/
theorem exec_due {e : Event} (h : eventOf c = some e) (due : e ∈ s.work) (k : ∀ d ∈ stepsBefore e, d ∉ s.work)
    (r : mayAbort e = true → s.runEnding = false) :
    exec c s = .next ((s.dropWork fun d => d == e).perform e) := by
  rw [exec_of_event h, State.takeEvent_of_due due k r]

/-- A step before which nothing has to come. -/
theorem exec_due_alone {e : Event} (h : eventOf c = some e) (due : e ∈ s.work) (first : stepsBefore e = [])
    (calm : mayAbort e = false) : exec c s = .next ((s.dropWork fun d => d == e).perform e) :=
  exec_due h due (by simp [first]) (by simp [calm])

/-! ### Frames that are not taken -/

theorem exec_badCommand (p : Port) (code : Byte) (args : List Byte) (s : State) :
    exec (.badCommand p code args) s
      = takeFrame p args (fun s => if commandCodes.contains code then s else s.respond p .badCommand []) s := rfl

theorem exec_badFrame (p : Port) (code : Byte) (args : List Byte) (check : Byte) (s : State) :
    exec (.badFrame p code args check) s
      = takeFrame p args (fun s =>
          if check = crc8 (frameBody code args) then s
          else (s.updPort p fun c => { c with frameErrors := satInc c.frameErrors }).respond p .badFrame []) s := rfl

/-- All a frame can do. -/
theorem takeFrame_cases (p : Port) (args : List Byte) (k : State → State) (s : State) :
    takeFrame p args k s = .next s.settle ∨ takeFrame p args k s = .next (s.settle.overlong p)
      ∨ takeFrame p args k s = .next (k s.settle) := by
  unfold takeFrame
  dsimp only
  split_ifs <;> simp

theorem takeFrame_next (p : Port) (args : List Byte) (k : State → State) (s : State) :
    ∃ t, takeFrame p args k s = .next t := by
  rcases takeFrame_cases p args k s with h | h | h <;> exact ⟨_, h⟩

/-! ### Every row -/

/-- Settles O1. -/
theorem stepTakesFront : Obligations.StepTakesFront := by
  intro c rest s front
  simp only [step, front]

/-- Settles O2, by the kind of the row: a frame, a due step, or an event whose meaning is a next state by definition. -/
theorem everyCommandCompletes : Obligations.EveryCommandCompletes := by
  intro c s
  cases request : requestOf c with
  | some q => rw [exec_of_request request]; exact takeFrame_next _ _ _ _
  | none =>
    cases event : eventOf c with
    | some e => exact ⟨_, exec_of_event event⟩
    | none =>
      cases c
      case badCommand p code args => rw [exec_badCommand]; exact takeFrame_next _ _ _ _
      case badFrame p code args check => rw [exec_badFrame]; exact takeFrame_next _ _ _ _
      all_goals first | exact ⟨_, rfl⟩ | cases request

end Sys2Proof.Machine
end

section
/-! SUPPORT. The queues and the log: when one port's queue is in order, and that storing a notice, appending a record and moving a
cursor keep the order (R133 to R139, R157 to R161). -/

namespace Sys2Proof.Machine

open Sys2Proof.Safety

/-! ### Queues -/

/-- One queue holds at most 16 notices, and NOTICE is set exactly while it is not empty (R157, R161). -/
def Client.QueueOk (c : Client) : Prop := c.queue.length ≤ 16 ∧ (c.notice = true ↔ c.queue ≠ [])

theorem noticesOk_iff (s : State) : NoticesOk s ↔ ∀ p : Port, s.ports[p].QueueOk := Iff.rfl

/-- A stored notice leaves a queue in order. -/
theorem Client.store_queueOk {c : Client} (n : Notice) (h : c.QueueOk) : (c.store n).QueueOk := by
  obtain ⟨-, eq⟩ | ⟨-, room, eq⟩ | ⟨-, -, eq⟩ := c.store_cases n
  · rwa [eq]
  · rw [eq]
    exact ⟨by simpa using room, by simp⟩
  · rw [eq]
    exact h

/-! ### The log and its cursors -/

/-- A port that does not read as far as the log's oldest record reads what is left of the log (R133). -/
theorem cursor_le_tail {next cursor : Seq} {n : Nat} (h : (next - cursor).toNat ≤ n + 1)
    (ne : cursor ≠ next - BitVec.ofNat 32 (n + 1)) : (next - cursor).toNat ≤ n := by
  bv_omega

/-- A port whose cursor stood on the oldest record reads all that is left (R134). -/
theorem cursor_moved_le {next : Seq} {n : Nat} (small : n < 128) :
    (next - (next - BitVec.ofNat 32 (n + 1) + 1)).toNat ≤ n := by
  bv_omega

theorem cursor_le_appended {next cursor : Seq} {n : Nat} (h : (next - cursor).toNat ≤ n) :
    (next + 1 - cursor).toNat ≤ n + 1 := by
  bv_omega

/-- A cursor that passes n of the records after it still lies within the log (R139). -/
theorem cursor_le_passed {next cursor : Seq} {n len : Nat} (h : (next - cursor).toNat ≤ len)
    (le : n ≤ (next - cursor).toNat) : (next - (cursor + BitVec.ofNat 32 n)).toNat ≤ len := by
  bv_omega

variable {s t : State}

/-- The log stays in order where the log, the next Seq and the cursors stay. -/
theorem logOk_of_same (h : LogOk s) (log : t.log = s.log) (next : t.nextSeq = s.nextSeq)
    (cursors : ∀ p : Port, t.ports[p].cursor = s.ports[p].cursor) : LogOk t := by
  obtain ⟨short, seqs, inLog⟩ := h
  refine ⟨by rwa [log], ?_, fun p => by rw [next, cursors, log]; exact inLog p⟩
  rw [log, next]
  exact seqs

/-- The log stays in order where one cursor moves to a place within it. -/
theorem logOk_of_cursor {p : Port} (h : LogOk s) (log : t.log = s.log) (next : t.nextSeq = s.nextSeq)
    (others : ∀ q : Port, q ≠ p → t.ports[q].cursor = s.ports[q].cursor)
    (within : (s.nextSeq - t.ports[p].cursor).toNat ≤ s.log.length) : LogOk t := by
  obtain ⟨short, seqs, inLog⟩ := h
  refine ⟨by rwa [log], by rwa [log, next], fun q => ?_⟩
  rw [next, log]
  by_cases same : q = p
  · subst same
    exact within
  · rw [others q same]
    exact inLog q

/-- Overwriting leaves the log in order and makes room (R134). -/
theorem overwriteOldest_logOk {r : CaptureRecord} {rest : List CaptureRecord} (h : LogOk s) (eq : s.log = r :: rest) :
    LogOk s.overwriteOldest ∧ s.overwriteOldest.log.length < 128 := by
  obtain ⟨short, seqs, inLog⟩ := h
  simp only [eq, List.length_cons] at short seqs inLog
  have oldest : r.seq = s.nextSeq - BitVec.ofNat 32 (rest.length + 1) := seqs 0 (by omega)
  refine ⟨⟨?_, ?_, fun p => ?_⟩, ?_⟩
  · simp only [State.overwriteOldest, eq]
    omega
  · simp only [State.overwriteOldest, eq]
    intro k hk
    have := seqs (k + 1) (by omega)
    rwa [List.getElem_cons_succ, Nat.add_sub_add_right] at this
  · have bound := inLog p
    simp only [State.overwriteOldest, eq, each_get]
    split_ifs with on sub
    · simpa only [on, oldest] using cursor_moved_le (by omega)
    · simpa only [on, oldest] using cursor_moved_le (by omega)
    · exact cursor_le_tail bound (oldest ▸ on)
  · simp only [State.overwriteOldest, eq]
    omega

/-- A record appended with the next Seq, where there is room, leaves the log in order (R133). -/
theorem logOk_of_append {r : CaptureRecord} (h : LogOk s) (room : s.log.length < 128) (log : t.log = s.log ++ [r])
    (seq : r.seq = s.nextSeq) (next : t.nextSeq = s.nextSeq + 1)
    (cursors : ∀ p : Port, t.ports[p].cursor = s.ports[p].cursor) : LogOk t := by
  obtain ⟨-, seqs, inLog⟩ := h
  have length : t.log.length = s.log.length + 1 := by simp [log]
  refine ⟨by omega, fun k hk => ?_, fun p => ?_⟩
  · simp only [log, next, List.length_append, List.length_singleton]
    by_cases old : k < s.log.length
    · rw [List.getElem_append_left old, seqs k old]
      bv_omega
    · have last : k = s.log.length := by omega
      subst last
      rw [List.getElem_concat_length rfl, seq]
      bv_omega
  · rw [next, cursors, length]
    exact cursor_le_appended (inLog p)

/-- The log with room for a record: the oldest of 128 is overwritten (R134). -/
def State.makeRoom (s : State) : State := if 128 ≤ s.log.length then s.overwriteOldest else s

theorem makeRoom_logOk (h : LogOk s) : LogOk s.makeRoom ∧ s.makeRoom.log.length < 128 := by
  unfold State.makeRoom
  split_ifs with full
  · obtain ⟨r, rest, eq⟩ := List.exists_cons_of_length_pos (show 0 < s.log.length by omega)
    exact overwriteOldest_logOk h eq
  · exact ⟨h, by omega⟩

/-- The record that an edge of input i appends (R131, R132). -/
def State.recordOf (s : State) (i : Input) (rising : Bool) (stamp : Stamp) : CaptureRecord :=
  { seq := s.nextSeq, input := i, rising := rising, time := stamp.time, phase := stamp.phase
    notRunning := stamp.notRunning, refLocked := stamp.refLocked, stepped := s.marker }

/-- An append, as what is done to the log with room (R135). -/
theorem appendRecord_eq (s : State) (i : Input) (rising : Bool) (stamp : Stamp) :
    s.appendRecord i rising stamp =
      { s.makeRoom with
        log := s.makeRoom.log ++ [s.makeRoom.recordOf i rising stamp]
        nextSeq := s.makeRoom.nextSeq + 1
        marker := false
        inputs := upd s.makeRoom.inputs i fun ch => { ch with counter := ch.counter + 1 }
        ports := each s.makeRoom.ports fun _ c =>
          if inMask c.subscription i then { c with capture := true } else c } := rfl

/-- The append of an edge leaves the log in order (R133 to R135). -/
theorem appendRecord_logOk (i : Input) (rising : Bool) (stamp : Stamp) (h : LogOk s) :
    LogOk (s.appendRecord i rising stamp) := by
  obtain ⟨ok, room⟩ := makeRoom_logOk h
  rw [appendRecord_eq]
  refine logOk_of_append ok room rfl rfl rfl fun p => ?_
  dsimp only
  rw [each_get]
  split_ifs <;> rfl

end Sys2Proof.Machine
end

section
/-! SUPPORT. Trim, slew and the reference: what the ticks, the crossings, the edges and the window ends make of them, and that they
stay in range and in agreement (R4, R13 to R17, R25 to R37). -/

namespace Sys2Proof.Machine

open Sys2Proof.Safety

variable {s t : State}

/-- Trim, slew and reference stay in order where they and the timebase state stay. -/
theorem disciplineOk_of_same (h : DisciplineOk s) (trim : t.trim = s.trim) (window : t.windowTrim = s.windowTrim)
    (slew : t.slew = s.slew) (timebase : t.timebase = s.timebase) (state : t.rdu.state = s.rdu.state)
    (enable : t.rdu.enable = s.rdu.enable) (wide : t.rdu.wide = s.rdu.wide) (narrow : t.rdu.narrow = s.rdu.narrow)
    (misses : t.rdu.misses = s.rdu.misses) : DisciplineOk t := by
  unfold DisciplineOk
  rw [trim, window, slew, timebase, state, enable, wide, narrow, misses]
  exact h

/-- An active reference that stays active: the windows and the enabling stay, and the misses fit the new state. -/
theorem disciplineOk_of_active (h : DisciplineOk s) (on : s.rdu.state ≠ .off) (trim : t.trim = s.trim)
    (window : t.windowTrim = s.windowTrim) (slew : t.slew = s.slew) (timebase : t.timebase = s.timebase)
    (enable : t.rdu.enable = s.rdu.enable) (wide : t.rdu.wide = s.rdu.wide) (narrow : t.rdu.narrow = s.rdu.narrow)
    (misses : t.rdu.misses ≤ 4) (locked : t.rdu.state = .locked → t.rdu.misses = 0)
    (holdover : t.rdu.state = .holdover → 1 ≤ t.rdu.misses ∧ t.rdu.misses ≤ 3) : DisciplineOk t := by
  obtain ⟨trimIn, windowIn, slewIn, slewing, active, windows, -, -, -⟩ := h
  have still : s.slew = 0 := by
    by_contra moving
    exact on (slewing moving).2
  refine ⟨by rwa [trim], by rwa [window], by rwa [slew], fun moving => absurd (slew.trans still) moving, fun _ => ?_,
    by rwa [wide, narrow], misses, locked, holdover⟩
  rw [timebase, enable]
  exact active on

/-- The slew remainder moves towards 0 and never past it. -/
theorem towardsZero_within {x : Int} (h : -524288 ≤ x ∧ x ≤ 524287) :
    (-524288 ≤ towardsZero x ∧ towardsZero x ≤ 524287) ∧ (x = 0 → towardsZero x = 0) := by
  unfold towardsZero
  split_ifs <;> omega

theorem clampTrim_within (x : Int) : -1024 ≤ clampTrim x ∧ clampTrim x ≤ 1023 := by
  unfold clampTrim
  omega

/-! ### The counting of a tick -/

theorem countTick_of_running (h : s.running = true) :
    s.countTick = { s with
      prescaler := 0
      time := s.time + BitVec.ofNat 52 s.tickStep
      position := s.position + 1
      windowTrim := s.windowTrimNow
      slew := if s.slewActs then towardsZero s.slew else s.slew
      tickTime := s.time + BitVec.ofNat 52 s.tickStep } := if_pos h

theorem countTick_of_not_running (h : s.running = false) :
    s.countTick = { s with prescaler := 0, tickTime := s.time } :=
  if_neg (c := s.running = true) (by simp [h])

theorem countTick_disciplineOk (h : DisciplineOk s) : DisciplineOk s.countTick := by
  cases running : s.running with
  | false =>
    rw [countTick_of_not_running running]
    exact h
  | true =>
    rw [countTick_of_running running]
    obtain ⟨trim, window, slew, slewing, rest⟩ := h
    obtain ⟨within, zero⟩ := towardsZero_within slew
    refine ⟨trim, ?_, ?_, fun moving => slewing fun still => moving ?_, rest⟩
    · change -1024 ≤ s.windowTrimNow ∧ s.windowTrimNow ≤ 1023
      unfold State.windowTrimNow
      split_ifs <;> assumption
    · dsimp only
      split_ifs <;> assumption
    · dsimp only
      split_ifs
      · exact zero still
      · exact still

/-! ### Window ends, crossings and edges -/

theorem windowEnd_disciplineOk (h : DisciplineOk s) : DisciplineOk s.windowEnd := by
  unfold State.windowEnd
  dsimp only
  split_ifs
  · obtain ⟨-, rest⟩ := h
    exact ⟨clampTrim_within _, rest⟩
  · exact h

/-! A crossing, case by case of the reference state and the credit (R31, R32). -/

theorem crossing_of_idle (h : s.rdu.state = .off ∨ s.rdu.state = .searching) :
    s.crossing = { s with rdu := { s.rdu with crossingDue := false } } := by
  rcases h with h | h <;> simp only [State.crossing, h]

theorem crossing_of_credit (h : s.rdu.state = .locked ∨ s.rdu.state = .holdover) (credit : s.rdu.credit = true) :
    s.crossing = { s with rdu := { s.rdu with crossingDue := false, credit := false } } := by
  rcases h with h | h <;> simp only [State.crossing, h, credit, if_true]

theorem crossing_of_first_miss (h : s.rdu.state = .locked) (credit : s.rdu.credit = false) :
    s.crossing = State.refStateChanged
      { s with rdu := { s.rdu with crossingDue := false, state := .holdover, misses := s.rdu.misses + 1 } }
      .holdover s.tickTime := by
  simp only [State.crossing, h, credit, Bool.false_eq_true, if_false]

theorem crossing_of_miss (h : s.rdu.state = .holdover) (credit : s.rdu.credit = false) (few : s.rdu.misses < 3) :
    s.crossing = { s with rdu := { s.rdu with crossingDue := false, misses := s.rdu.misses + 1 } } := by
  have few' : s.rdu.misses + 1 < 4 := by omega
  simp only [State.crossing, h, credit, few', Bool.false_eq_true, if_false, if_true]

theorem crossing_of_last_miss (h : s.rdu.state = .holdover) (credit : s.rdu.credit = false) (many : 3 ≤ s.rdu.misses) :
    s.crossing = State.refStateChanged
      { s with rdu := { s.rdu with state := .searching, crossingDue := false, credit := false, misses := 4 } }
      .searching s.tickTime := by
  have many' : ¬ s.rdu.misses + 1 < 4 := by omega
  simp only [State.crossing, h, credit, many', Bool.false_eq_true, if_false, Rdu.enter]

theorem crossing_disciplineOk (h : DisciplineOk s) : DisciplineOk s.crossing := by
  have ⟨_, _, _, _, _, _, misses, locked, holdover⟩ := h
  have same (r : Rdu) (state : r.state = s.rdu.state) (enable : r.enable = s.rdu.enable) (wide : r.wide = s.rdu.wide)
      (narrow : r.narrow = s.rdu.narrow) (misses : r.misses = s.rdu.misses) : DisciplineOk { s with rdu := r } :=
    disciplineOk_of_same h rfl rfl rfl rfl state enable wide narrow misses
  cases credit : s.rdu.credit <;> cases state : s.rdu.state
  case false.off | true.off => rw [crossing_of_idle (.inl state)]; exact same _ rfl rfl rfl rfl rfl
  case false.searching | true.searching => rw [crossing_of_idle (.inr state)]; exact same _ rfl rfl rfl rfl rfl
  case true.locked => rw [crossing_of_credit (.inl state) credit]; exact same _ rfl rfl rfl rfl rfl
  case true.holdover => rw [crossing_of_credit (.inr state) credit]; exact same _ rfl rfl rfl rfl rfl
  case false.locked =>
    rw [crossing_of_first_miss state credit]
    refine disciplineOk_of_active h (by simp [state]) rfl rfl rfl rfl rfl rfl rfl ?_ ?_ ?_ <;> simp [locked state]
  case false.holdover =>
    obtain ⟨least, most⟩ := holdover state
    by_cases few : s.rdu.misses < 3
    · rw [crossing_of_miss state credit few]
      refine disciplineOk_of_active h (by simp [state]) rfl rfl rfl rfl rfl rfl rfl ?_ ?_ ?_ <;> simp [state] <;> omega
    · rw [crossing_of_last_miss state credit (by omega)]
      refine disciplineOk_of_active h (by simp [state]) rfl rfl rfl rfl rfl rfl rfl ?_ ?_ ?_ <;> simp

/-! A REFP edge, case by case of the reference state and the window in force (R23, R26 to R29). -/

/-- The reference after a realigning edge (R26 to R28, R31). -/
def Rdu.acquired (r : Rdu) (off : Int) : Rdu :=
  { r with lastOffset := off, realignments := satInc r.realignments, misses := 0, credit := true, crossingDue := true
           state := .locked }

/-- The reference after a realigning edge that adds its offset to the sum (R27, R28). -/
def Rdu.summed (r : Rdu) (off : Int) : Rdu := { r.acquired off with sum := satSum r.sum off }

/-- The window in force (R26 to R28). -/
def Rdu.window (r : Rdu) : Nat := if r.state = .searching then r.wide else r.narrow

/-- The realignment by an edge, with the reference r after it, before any notice or check (R19, R29). -/
def State.aligned (s : State) (r : Rdu) : State :=
  { s.realign (offsetOf s.rdu.edgeTime) with rdu := r }

section

variable (s)

theorem refpEdge_of_off (h : s.rdu.state = .off) : s.refpEdge = s := by
  simp only [State.refpEdge, h]

theorem refpEdge_of_stray (on : s.rdu.state ≠ .off) (far : s.rdu.window < (offsetOf s.rdu.edgeTime).natAbs) :
    s.refpEdge = { s with rdu :=
      { s.rdu with lastOffset := offsetOf s.rdu.edgeTime, strays := satInc s.rdu.strays } } := by
  unfold Rdu.window at far
  cases state : s.rdu.state <;> simp only [state, if_true, if_false, reduceCtorEq] at far
  case off => exact absurd state on
  all_goals simp only [State.refpEdge, state, Nat.not_le.mpr far, if_false, Rdu.stray]

theorem refpEdge_of_acquiring (h : s.rdu.state = .searching)
    (near : (offsetOf s.rdu.edgeTime).natAbs ≤ s.rdu.wide) :
    s.refpEdge = ((((s.aligned (s.rdu.acquired (offsetOf s.rdu.edgeTime))).refStateChanged .locked
        (s.realign (offsetOf s.rdu.edgeTime)).time).timeChanged .acquired
          (s.realign (offsetOf s.rdu.edgeTime)).time).checkForward (offsetOf s.rdu.edgeTime) s.time) := by
  simp only [State.refpEdge, h, near, if_true]
  rfl

theorem refpEdge_of_locked (h : s.rdu.state = .locked) (near : (offsetOf s.rdu.edgeTime).natAbs ≤ s.rdu.narrow) :
    s.refpEdge = (s.aligned (s.rdu.summed (offsetOf s.rdu.edgeTime))).checkForward (offsetOf s.rdu.edgeTime) s.time := by
  simp only [State.refpEdge, h, near, if_true, Rdu.summed, Rdu.acquired, State.aligned, Rdu.realigned, State.realign]

theorem refpEdge_of_holdover (h : s.rdu.state = .holdover)
    (near : (offsetOf s.rdu.edgeTime).natAbs ≤ s.rdu.narrow) :
    s.refpEdge = ((s.aligned (s.rdu.summed (offsetOf s.rdu.edgeTime))).refStateChanged .locked
        (s.realign (offsetOf s.rdu.edgeTime)).time).checkForward (offsetOf s.rdu.edgeTime) s.time := by
  simp only [State.refpEdge, h, near, if_true]
  rfl

end

/-- All a REFP edge can do: nothing, a stray, or a realignment with its notices and the check of a forward one. -/
theorem refpEdge_cases (s : State) :
    (s.rdu.state = .off ∧ s.refpEdge = s)
    ∨ (s.rdu.state ≠ .off ∧ s.refpEdge = { s with rdu :=
        { s.rdu with lastOffset := offsetOf s.rdu.edgeTime, strays := satInc s.rdu.strays } })
    ∨ (s.rdu.state ≠ .off ∧ ∃ (r : Rdu) (ns : List Notice),
        (r = s.rdu.acquired (offsetOf s.rdu.edgeTime) ∨ r = s.rdu.summed (offsetOf s.rdu.edgeTime))
        ∧ s.refpEdge = (ns.foldl State.broadcast (s.aligned r)).checkForward (offsetOf s.rdu.edgeTime) s.time) := by
  by_cases off : s.rdu.state = .off
  · exact .inl ⟨off, refpEdge_of_off s off⟩
  refine .inr ?_
  by_cases far : s.rdu.window < (offsetOf s.rdu.edgeTime).natAbs
  · exact .inl ⟨off, refpEdge_of_stray s off far⟩
  refine .inr ⟨off, ?_⟩
  have near := Nat.le_of_not_lt far
  unfold Rdu.window at near
  cases state : s.rdu.state <;> simp only [state, if_true, if_false, reduceCtorEq] at near
  case off => exact absurd state off
  case searching => exact ⟨_, [_, _], .inl rfl, refpEdge_of_acquiring s state near⟩
  case locked => exact ⟨_, [], .inr rfl, refpEdge_of_locked s state near⟩
  case holdover => exact ⟨_, [_], .inr rfl, refpEdge_of_holdover s state near⟩

theorem aligned_disciplineOk {r : Rdu} {off : Int} (h : DisciplineOk s) (on : s.rdu.state ≠ .off)
    (eq : r = s.rdu.acquired off ∨ r = s.rdu.summed off) : DisciplineOk (s.aligned r) := by
  rcases eq with rfl | rfl <;>
    exact disciplineOk_of_active h on rfl rfl rfl rfl rfl rfl rfl (Nat.zero_le 4) (fun _ => rfl) (by
      rintro ⟨⟩)

/-! ### HOLD, LOAD TIME, RUN, SET TRIM, SLEW and SET REFERENCE -/

theorem turnRduOff_of_off (h : s.rdu.state = .off) : s.turnRduOff = s := if_pos h

theorem turnRduOff_of_on (h : s.rdu.state ≠ .off) :
    s.turnRduOff = State.refStateChanged { s with rdu := s.rdu.enter .off } .off s.time := if_neg h

theorem cancelSlew_of_still (h : s.slew = 0) : s.cancelSlew = s := if_neg (not_not.mpr h)

theorem cancelSlew_of_moving (h : s.slew ≠ 0) :
    s.cancelSlew = State.timeChanged { s with slew := 0 } .slewCancelled s.time := if_pos h

/-- Several broadcasts reach each port one after another (R157). -/
theorem broadcastAll_eq (ns : List Notice) : ∀ s : State,
    ns.foldl State.broadcast s = { s with ports := each s.ports fun _ c => ns.foldl Client.store c } := by
  induction ns with
  | nil =>
    intro s
    have same : each s.ports (fun _ c => c) = s.ports := table_ext fun i => each_get _ _ i
    simp only [List.foldl_nil, same]
  | cons n ns ih =>
    intro s
    have both : each (each s.ports fun _ c => c.store n) (fun _ c => ns.foldl Client.store c)
        = each s.ports fun _ c => (n :: ns).foldl Client.store c :=
      table_ext fun i => by simp only [each_get, List.foldl_cons]
    rw [List.foldl_cons, ih, State.broadcast_ports, both]
    rfl

theorem cancelSlew_cases (s : State) : ∃ ns : List Notice, s.cancelSlew = ns.foldl State.broadcast { s with slew := 0 } := by
  by_cases still : s.slew = 0
  · exact ⟨[], by rw [cancelSlew_of_still still, ← still]; rfl⟩
  · exact ⟨[_], cancelSlew_of_moving still⟩

/-- The reference turned OFF: its settings and its misses stay (R25). -/
def Rdu.TurnedOff (r off : Rdu) : Prop :=
  off.state = .off ∧ off.enable = r.enable ∧ off.wide = r.wide ∧ off.narrow = r.narrow ∧ off.misses = r.misses

theorem turnRduOff_cases (s : State) : ∃ (ns : List Notice) (r : Rdu), s.rdu.TurnedOff r
    ∧ s.turnRduOff = ns.foldl State.broadcast { s with rdu := r } := by
  by_cases off : s.rdu.state = .off
  · exact ⟨[], s.rdu, ⟨off, rfl, rfl, rfl, rfl⟩, turnRduOff_of_off off⟩
  · exact ⟨[_], s.rdu.enter .off, ⟨rfl, rfl, rfl, rfl, rfl⟩, turnRduOff_of_on off⟩

/-- Steps 1 to 4 of HOLD: HELD, the slew cancelled, the reference OFF, a run aborted (R8). -/
def State.halt (s : State) : State := ({ s with timebase := .held }).cancelSlew.turnRduOff.abortCalibration .hold

/-- What HOLD stops before it aborts a run: the timebase, the slew and the reference, with the notices of the two. -/
theorem halt_cases (s : State) : ∃ (ns : List Notice) (r : Rdu), s.rdu.TurnedOff r
    ∧ s.halt = State.abortCalibration { s with timebase := .held, slew := 0, rdu := r,
                                               ports := each s.ports fun _ c => ns.foldl Client.store c } .hold := by
  obtain ⟨ns, slewed⟩ := cancelSlew_cases { s with timebase := .held }
  obtain ⟨ms, r, off, turned⟩ := turnRduOff_cases (State.cancelSlew { s with timebase := .held })
  refine ⟨ns ++ ms, r, ?_, ?_⟩
  · rwa [slewed, broadcastAll_eq] at off
  · have both : each (each s.ports fun _ c => ns.foldl Client.store c) (fun _ c => ms.foldl Client.store c)
        = each s.ports fun _ c => (ns ++ ms).foldl Client.store c :=
      table_ext fun i => by simp only [each_get, List.foldl_append]
    rw [State.halt, turned, slewed, broadcastAll_eq, broadcastAll_eq, ← both]

theorem halt_time (s : State) : s.halt.time = s.time := by
  obtain ⟨ns, r, -, eq⟩ := halt_cases s
  rw [eq]
  exact (State.abortCalibration_kept _ _).time

/-- The timebase RUNNING again, with the reference SEARCHING if it is enabled (R10). -/
def State.resume (s : State) : State :=
  { s with timebase := .running, rdu := if s.rdu.enable then s.rdu.enter .searching else s.rdu }

/-- The four settings of SET REFERENCE, and the reference state they lead to (R37). -/
def State.withReference (s : State) (enable autoTrim : Bool) (wide narrow : Nat) : State :=
  let set := { s with rdu := { s.rdu with enable := enable, autoTrim := autoTrim, wide := wide, narrow := narrow } }
  if enable = false then set.turnRduOff
  else if s.timebase = .running ∧ s.rdu.state = .off then
    State.refStateChanged { set with rdu := set.rdu.enter .searching } .searching s.time
  else set

section

variable {p : Port} {args : List Byte}

theorem hold_carriedOut (mine : s.holds p timeResource = true) (running : s.running = true) :
    hold p s = (s.halt.timeChanged .held s.time).ok (timeBytes s.time) := by
  have time : (s.halt.timeChanged .held s.time).time = s.time := halt_time s
  unfold State.halt at time ⊢
  simp only [hold, mine, running, time, Bool.not_true, Bool.false_eq_true, if_false]

theorem loadTime_carriedOut (good : timeFieldOk args 0 = true) (mine : s.holds p timeResource = true)
    (stopped : s.running = false) :
    loadTime p args s = (State.timeChanged { s with time := timeField args 0, timebase := .held, marker := true }
      .loaded (timeField args 0)).ok [] := by
  simp only [loadTime, good, mine, stopped, Bool.not_true, Bool.false_eq_true, if_false]

theorem run_carriedOut (mine : s.holds p timeResource = true) (held : s.timebase = .held) :
    run p s = ((State.timeChanged
        { (if s.rdu.enable then s.resume.refStateChanged .searching s.time else s.resume) with marker := true }
        .resumed s.time).fireCheck false s.time).ok (timeBytes s.time) := by
  cases enable : s.rdu.enable <;>
    simp only [run, mine, held, enable, State.resume, Bool.not_true, Bool.false_eq_true, ne_eq, not_true_eq_false,
      if_false, if_true]

theorem setTrim_carriedOut (good : -1024 ≤ signedField args 0 2 ∧ signedField args 0 2 ≤ 1023)
    (mine : s.holds p timeResource = true) (manual : s.rdu.autoTrim = false) :
    setTrim p args s = State.ok { s with trim := signedField args 0 2 } [] := by
  have fits : ¬ (signedField args 0 2 < -1024 ∨ 1023 < signedField args 0 2) := by omega
  simp only [setTrim, fits, mine, manual, Bool.not_true, Bool.false_eq_true, if_false]

theorem slew_carriedOut (good : -524288 ≤ signedField args 0 3 ∧ signedField args 0 3 ≤ 524287)
    (some : signedField args 0 3 ≠ 0) (mine : s.holds p timeResource = true) (running : s.running = true)
    (off : s.rdu.state = .off) (still : s.slew = 0) :
    slew p args s = State.ok { s with slew := signedField args 0 3 } [] := by
  have fits : ¬ (signedField args 0 3 = 0 ∨ signedField args 0 3 < -524288 ∨ 524287 < signedField args 0 3) := by omega
  simp only [slew, fits, mine, running, off, still, Bool.not_true, Bool.false_eq_true, ne_eq, not_true_eq_false, if_false]

theorem setReference_carriedOut (good : referenceArgsOk args = true) (mine : s.holds p timeResource = true)
    (free : (arg args 0).testBit 0 = true → s.slew = 0) :
    setReference p args s = (s.withReference ((arg args 0).testBit 0) ((arg args 0).testBit 1) (field args 1 3)
      (field args 4 3)).ok [] := by
  have still : ¬ ((arg args 0).testBit 0 = true ∧ s.slew ≠ 0) := fun h => h.2 (free h.1)
  unfold setReference State.withReference
  simp only [good, mine, still, Bool.not_true, Bool.false_eq_true, if_false, State.running, beq_iff_eq]
  cases (arg args 0).testBit 0 with
  | false => rfl
  | true =>
    simp only [Bool.not_true, Bool.false_eq_true, Bool.true_eq_false, if_false]
    split_ifs <;> rfl

end

/-! ### What a command can do: nothing, when it is refused, or what it is for -/

section

variable (p : Port) (args : List Byte) (s : State)

theorem hold_cases : (hold p s).state = s ∨ (s.timebase = .running ∧ (hold p s).state = s.halt.timeChanged .held s.time) := by
  by_cases mine : s.holds p timeResource = true
  · by_cases running : s.running = true
    · rw [hold_carriedOut mine running]
      exact .inr ⟨by simpa [State.running] using running, rfl⟩
    · exact .inl (by simp [hold, mine, running, State.refuse])
  · exact .inl (by simp [hold, mine, State.refuse])

theorem loadTime_cases : (loadTime p args s).state = s ∨ (s.timebase ≠ .running ∧ (loadTime p args s).state
    = State.timeChanged { s with time := timeField args 0, timebase := .held, marker := true } .loaded
        (timeField args 0)) := by
  unfold loadTime
  split_ifs with good mine running
  · exact .inl rfl
  · exact .inl rfl
  · exact .inl rfl
  · exact .inr ⟨by simpa [State.running] using running, rfl⟩

theorem run_cases : (run p s).state = s ∨ (s.timebase = .held ∧ (run p s).state = (State.timeChanged
    { (if s.rdu.enable then s.resume.refStateChanged .searching s.time else s.resume) with marker := true }
    .resumed s.time).fireCheck false s.time) := by
  by_cases mine : s.holds p timeResource = true
  · by_cases held : s.timebase = .held
    · rw [run_carriedOut mine held]
      exact .inr ⟨held, rfl⟩
    · exact .inl (by simp [run, mine, held, State.refuse])
  · exact .inl (by simp [run, mine, State.refuse])

theorem setTrim_cases : (setTrim p args s).state = s ∨ ∃ v, (-1024 ≤ v ∧ v ≤ 1023)
    ∧ (setTrim p args s).state = { s with trim := v } := by
  unfold setTrim
  dsimp only
  split_ifs
  · exact .inl rfl
  · exact .inl rfl
  · exact .inl rfl
  · exact .inr ⟨_, by omega, rfl⟩

theorem slew_cases : (slew p args s).state = s ∨ ∃ v, (-524288 ≤ v ∧ v ≤ 524287) ∧ s.timebase = .running
    ∧ s.rdu.state = .off ∧ (slew p args s).state = { s with slew := v } := by
  unfold slew
  dsimp only
  split_ifs with good mine running off still
  · exact .inl rfl
  · exact .inl rfl
  · exact .inl rfl
  · exact .inl rfl
  · exact .inl rfl
  · exact .inr ⟨_, by omega, by simpa [State.running] using running, by simpa using off, rfl⟩

theorem setReference_cases : (setReference p args s).state = s ∨ ∃ (enable autoTrim : Bool) (wide narrow : Nat),
    (16 ≤ narrow ∧ narrow ≤ wide ∧ wide ≤ 524287) ∧ (enable = true → s.slew = 0)
    ∧ (setReference p args s).state = s.withReference enable autoTrim wide narrow := by
  by_cases good : referenceArgsOk args = true
  · by_cases mine : s.holds p timeResource = true
    · by_cases free : (arg args 0).testBit 0 = true ∧ s.slew ≠ 0
      · exact .inl (by simp [setReference, good, mine, free, State.refuse])
      · have still : (arg args 0).testBit 0 = true → s.slew = 0 := fun on => by
          by_contra moving
          exact free ⟨on, moving⟩
        rw [setReference_carriedOut good mine still]
        simp only [referenceArgsOk, Config.minWindow, Config.maxWindow] at good
        have good := of_decide_eq_true good
        exact .inr ⟨_, _, _, _, by omega, still, rfl⟩
    · exact .inl (by simp [setReference, good, mine, State.refuse])
  · exact .inl (by simp [setReference, good, State.refuse])

end

/-! ### That they keep trim, slew and reference in order -/

theorem turnRduOff_disciplineOk (h : DisciplineOk s) : DisciplineOk s.turnRduOff := by
  by_cases off : s.rdu.state = .off
  · rwa [turnRduOff_of_off off]
  · rw [turnRduOff_of_on off]
    have ⟨_, _, _, _, _, _, misses, _, _⟩ := h
    exact disciplineOk_of_active h off rfl rfl rfl rfl rfl rfl rfl misses (by rintro ⟨⟩) (by rintro ⟨⟩)

theorem halt_disciplineOk (h : DisciplineOk s) : DisciplineOk s.halt := by
  obtain ⟨trim, window, -, -, -, windows, misses, -, -⟩ := h
  obtain ⟨ns, r, ⟨state, enable, wide, narrow, same⟩, eq⟩ := halt_cases s
  have kept := State.abortCalibration_kept { s with timebase := .held, slew := 0, rdu := r,
                                                    ports := each s.ports fun _ c => ns.foldl Client.store c } .hold
  rw [← eq] at kept
  refine disciplineOk_of_same (s := { s with timebase := .held, slew := 0, rdu := r }) ?_ kept.trim kept.windowTrim
    kept.slew kept.timebase ?_ ?_ ?_ ?_ ?_
  · exact ⟨trim, window, ⟨by simp, by simp⟩, fun moving => absurd rfl moving, fun on => absurd state on, by rwa [wide, narrow],
      by rwa [same], fun on => by simp [state] at on, fun on => by simp [state] at on⟩
  all_goals rw [kept.rdu]

theorem held_disciplineOk (stopped : s.timebase ≠ .running) (h : DisciplineOk s) :
    DisciplineOk { s with timebase := .held } := by
  obtain ⟨trim, window, slew, slewing, active, rest⟩ := h
  exact ⟨trim, window, slew, fun moving => absurd (slewing moving).1 stopped, fun on => absurd (active on).1 stopped, rest⟩

theorem resume_disciplineOk (held : s.timebase = .held) (h : DisciplineOk s) : DisciplineOk s.resume := by
  obtain ⟨trim, window, slew, slewing, active, windows, misses, locked, holdover⟩ := h
  have stopped : s.timebase ≠ .running := by simp [held]
  have still : s.slew = 0 := by
    by_contra moving
    exact stopped (slewing moving).1
  have off : s.rdu.state = .off := by
    by_contra on
    exact stopped (active on).1
  cases enable : s.rdu.enable <;> simp only [State.resume, enable, Bool.false_eq_true, if_false, if_true]
  · exact ⟨trim, window, slew, fun moving => absurd still moving, fun on => absurd off on, windows, misses, locked, holdover⟩
  · exact ⟨trim, window, slew, fun moving => absurd still moving, fun _ => ⟨rfl, enable⟩, windows, misses, by rintro ⟨⟩,
      by rintro ⟨⟩⟩

theorem withReference_disciplineOk {enable autoTrim : Bool} {wide narrow : Nat}
    (good : 16 ≤ narrow ∧ narrow ≤ wide ∧ wide ≤ 524287) (free : enable = true → s.slew = 0) (h : DisciplineOk s) :
    DisciplineOk (s.withReference enable autoTrim wide narrow) := by
  obtain ⟨trim, window, slew, slewing, active, -, misses, locked, holdover⟩ := h
  unfold State.withReference
  dsimp only
  cases enable with
  | false =>
    rw [if_pos rfl]
    obtain ⟨ns, r, ⟨state, enable, wide', narrow', same⟩, eq⟩ := turnRduOff_cases
      { s with rdu := { s.rdu with enable := false, autoTrim := autoTrim, wide := wide, narrow := narrow } }
    rw [eq, broadcastAll_eq]
    exact ⟨trim, window, slew, fun moving => ⟨(slewing moving).1, state⟩, fun on => absurd state on,
      by rw [wide', narrow']; exact good, by rw [same]; exact misses, fun on => by simp [state] at on,
      fun on => by simp [state] at on⟩
  | true =>
    rw [if_neg (by simp)]
    split_ifs with off
    · exact ⟨trim, window, slew, fun moving => absurd (free rfl) moving, fun _ => ⟨off.1, rfl⟩, good, misses,
        by rintro ⟨⟩, by rintro ⟨⟩⟩
    · exact ⟨trim, window, slew, slewing, fun on => ⟨(active on).1, rfl⟩, good, misses, locked, holdover⟩

end Sys2Proof.Machine
end

section
/-! SUPPORT. What an invariant of the part has to survive: the changes that touch none of the claims, the table, the run and the
timebase state, and the few operations that do. From these follows that every step keeps it. -/

namespace Sys2Proof.Machine

open Sys2Proof.Safety

/-! ### Quiet changes -/

/-- What a run is made for: its requester, its line and its loop input (R143). -/
def CalRun.place (c : CalRun) : Port × Line × Input := (c.requester, c.line, c.input)

/-- A change that leaves the claims, the table, the run and the timebase state, and that keeps the queues, the log, and trim,
slew and reference in order. -/
structure State.Quiet (s t : State) : Prop where
  timebase : t.timebase = s.timebase
  claims : t.claims = s.claims
  slots : t.slots = s.slots
  dueOrder : t.dueOrder = s.dueOrder
  run : t.calRun.map CalRun.place = s.calRun.map CalRun.place
  calibrating : ∀ l : Line, t.lines[l].activity = .calibrating ↔ s.lines[l].activity = .calibrating
  notices : NoticesOk s → NoticesOk t
  log : LogOk s → LogOk t
  discipline : DisciplineOk s → DisciplineOk t

/-- A port keeps its queue, its NOTICE flag and its cursor. -/
def Client.SameRecords (c d : Client) : Prop := d.queue = c.queue ∧ d.notice = c.notice ∧ d.cursor = c.cursor

namespace State.Quiet

theorem refl (s : State) : s.Quiet s := ⟨rfl, rfl, rfl, rfl, rfl, fun _ => .rfl, id, id, id⟩

theorem trans {s t u : State} (h : s.Quiet t) (k : t.Quiet u) : s.Quiet u :=
  ⟨k.timebase.trans h.timebase, k.claims.trans h.claims, k.slots.trans h.slots, k.dueOrder.trans h.dueOrder,
    k.run.trans h.run, fun l => (k.calibrating l).trans (h.calibrating l), k.notices ∘ h.notices, k.log ∘ h.log,
    k.discipline ∘ h.discipline⟩

variable {s t : State}

/-- A change of trim, window trim, slew and reference that keeps them in order, and of items that no invariant reads. -/
theorem of_discipline
    (h : { t with trim := s.trim, windowTrim := s.windowTrim, slew := s.slew, rdu := s.rdu, vddm := s.vddm,
                  vddr := s.vddr, nrstLow := s.nrstLow, prescaler := s.prescaler, time := s.time,
                  position := s.position, tickTime := s.tickTime, gens := s.gens, inputs := s.inputs,
                  marker := s.marker, results := s.results, work := s.work, pending := s.pending } = s)
    (ok : DisciplineOk s → DisciplineOk t) : s.Quiet t := by
  have timebase : t.timebase = s.timebase := by rw [← h]
  have claims : t.claims = s.claims := by rw [← h]
  have slots : t.slots = s.slots := by rw [← h]
  have dueOrder : t.dueOrder = s.dueOrder := by rw [← h]
  have run : t.calRun = s.calRun := by rw [← h]
  have lines : t.lines = s.lines := by rw [← h]
  have ports : t.ports = s.ports := by rw [← h]
  have log : t.log = s.log := by rw [← h]
  have next : t.nextSeq = s.nextSeq := by rw [← h]
  refine ⟨timebase, claims, slots, dueOrder, by rw [run], fun l => by rw [lines], fun ok p => ?_,
    fun ok => logOk_of_same ok log next fun p => by rw [ports], ok⟩
  rw [ports]
  exact ok p

/-- A change of items that no invariant reads. -/
theorem of_background
    (h : { t with vddm := s.vddm, vddr := s.vddr, nrstLow := s.nrstLow, prescaler := s.prescaler, time := s.time,
                  position := s.position, tickTime := s.tickTime, gens := s.gens, inputs := s.inputs,
                  marker := s.marker, results := s.results, work := s.work, pending := s.pending } = s) :
    s.Quiet t := by
  have trim : t.trim = s.trim := by rw [← h]
  have window : t.windowTrim = s.windowTrim := by rw [← h]
  have slew : t.slew = s.slew := by rw [← h]
  have rdu : t.rdu = s.rdu := by rw [← h]
  refine of_discipline (by rw [← h]) fun ok => disciplineOk_of_same ok trim window slew (by rw [← h]) ?_ ?_ ?_ ?_ ?_
  all_goals rw [rdu]

variable (s)

/-- A change of the ports that keeps every queue in order, and every cursor. -/
theorem ports {v : Vector Client 4} (queues : ∀ p : Port, s.ports[p].QueueOk → v[p].QueueOk)
    (cursors : ∀ p : Port, v[p].cursor = s.ports[p].cursor) : s.Quiet { s with ports := v } :=
  ⟨rfl, rfl, rfl, rfl, rfl, fun _ => .rfl, fun ok p => queues p (ok p), fun ok => logOk_of_same ok rfl rfl cursors, id⟩

theorem updPort {p : Port} {f : Client → Client} (same : ∀ c : Client, c.SameRecords (f c)) : s.Quiet (s.updPort p f) := by
  refine ports s (fun q ok => ?_) fun q => ?_
  · rw [upd_get]
    split_ifs with h
    · subst h
      obtain ⟨queue, notice, -⟩ := same s.ports[p]
      unfold Client.QueueOk
      rwa [queue, notice]
    · exact ok
  · rw [upd_get]
    split_ifs with h
    · subst h
      exact (same _).2.2
    · rfl

theorem offer (p : Port) (n : Notice) : s.Quiet (s.offer p n) := by
  refine ports s (fun q ok => ?_) fun q => ?_
  · rw [upd_get]
    split_ifs with h
    · subst h
      exact Client.store_queueOk n ok
    · exact ok
  · rw [upd_get]
    split_ifs with h
    · subst h
      exact Client.store_cursor _ n
    · rfl

theorem broadcast (n : Notice) : s.Quiet (s.broadcast n) :=
  ports s (fun p ok => by rw [each_get]; exact Client.store_queueOk n ok)
    fun p => by rw [each_get]; exact Client.store_cursor _ n

theorem broadcasts (ns : List Notice) : ∀ s : State, s.Quiet (ns.foldl State.broadcast s) := by
  induction ns with
  | nil => exact refl
  | cons n ns ih => exact fun s => (broadcast s n).trans (ih _)

/-- A change of the lines after which the same lines are CALIBRATING. -/
theorem lines {v : Vector LineUnit 8}
    (same : ∀ l : Line, v[l].activity = .calibrating ↔ s.lines[l].activity = .calibrating) :
    s.Quiet { s with lines := v } :=
  ⟨rfl, rfl, rfl, rfl, rfl, same, id, id, id⟩

theorem updLine {l : Line} {f : LineUnit → LineUnit}
    (same : (f s.lines[l]).activity = .calibrating ↔ s.lines[l].activity = .calibrating) :
    s.Quiet (s.updLine l f) := by
  refine lines s fun k => ?_
  rw [upd_get]
  split_ifs with h
  · subst h
    exact same
  · rfl

/-- A change of a run that leaves what it is made for. -/
theorem engine {c : Option CalRun} (same : c.map CalRun.place = s.calRun.map CalRun.place) :
    s.Quiet { s with calRun := c } :=
  ⟨rfl, rfl, rfl, rfl, same, fun _ => .rfl, id, id, id⟩

end State.Quiet

/-! ### The quiet operations -/

namespace State

variable (s : State)

theorem respond_quiet (p : Port) (st : Status) (payload : List Byte) : s.Quiet (s.respond p st payload) :=
  .updPort s fun _ => ⟨rfl, rfl, rfl⟩

theorem overlong_quiet (p : Port) : s.Quiet (s.overlong p) := .updPort s fun _ => ⟨rfl, rfl, rfl⟩

theorem windowEnd_quiet : s.Quiet s.windowEnd := by
  refine .of_discipline ?_ windowEnd_disciplineOk
  unfold State.windowEnd
  dsimp only
  split_ifs <;> rfl

theorem crossing_quiet : s.Quiet s.crossing := by
  have shape : ∃ (ns : List Notice) (r : Rdu), s.crossing = ns.foldl State.broadcast { s with rdu := r } := by
    cases credit : s.rdu.credit <;> cases state : s.rdu.state
    case false.off | true.off => exact ⟨[], _, crossing_of_idle (.inl state)⟩
    case false.searching | true.searching => exact ⟨[], _, crossing_of_idle (.inr state)⟩
    case true.locked => exact ⟨[], _, crossing_of_credit (.inl state) credit⟩
    case true.holdover => exact ⟨[], _, crossing_of_credit (.inr state) credit⟩
    case false.locked => exact ⟨[_], _, crossing_of_first_miss state credit⟩
    case false.holdover =>
      by_cases few : s.rdu.misses < 3
      · exact ⟨[], _, crossing_of_miss state credit few⟩
      · exact ⟨[_], _, crossing_of_last_miss state credit (Nat.le_of_not_lt few)⟩
  obtain ⟨ns, r, eq⟩ := shape
  have ok := crossing_disciplineOk (s := s)
  rw [eq, broadcastAll_eq] at ok
  rw [eq]
  exact (Quiet.of_discipline (t := { s with rdu := r }) rfl ok).trans (.broadcasts ns _)

theorem pulseEnd_quiet (l : Line) : s.Quiet (s.pulseEnd l) := .updLine s <| by split <;> simp_all

theorem waveHighEnd_quiet (l : Line) : s.Quiet (s.waveHighEnd l) := .updLine s <| by split <;> simp_all

theorem waveCycleEnd_quiet (l : Line) : s.Quiet (s.waveCycleEnd l) := .updLine s <| by split <;> simp_all

theorem waveCompletion_quiet (l : Line) : s.Quiet (s.waveCompletion l) := by
  unfold State.waveCompletion
  split
  next waving =>
    have done := Quiet.updLine s (l := l) (f := fun ln => { ln with level := ln.idle, activity := .steady })
      (by rw [waving]; simp)
    dsimp only
    split
    · exact done.trans (.offer _ _ _)
    · exact done
  next => exact .refl s

theorem calStepStart_quiet : s.Quiet s.calStepStart := by
  unfold State.calStepStart
  split
  · exact .updLine s .rfl
  · exact .refl s

theorem calLeadingEdge_quiet : s.Quiet s.calLeadingEdge := by
  unfold State.calLeadingEdge
  split
  · exact .updLine s .rfl
  · exact .refl s

theorem calTrailingEdge_quiet : s.Quiet s.calTrailingEdge := by
  unfold State.calTrailingEdge
  split
  · exact .updLine s .rfl
  · exact .refl s

theorem calTrialJudged_quiet : s.Quiet s.calTrialJudged := by
  unfold State.calTrialJudged
  split
  next run => exact .engine s (by rw [run]; rfl)
  next => exact .refl s

theorem calStepJudged_quiet : s.Quiet s.calStepJudged := by
  unfold State.calStepJudged
  split
  next run => exact .engine s (by rw [run]; rfl)
  next => exact .refl s

theorem overwriteOldest_frame : s.overwriteOldest
    = { s with log := s.overwriteOldest.log, ports := s.overwriteOldest.ports } := by
  unfold State.overwriteOldest
  split <;> rfl

/-- Making room changes the log and the ports alone. -/
theorem makeRoom_frame : s.makeRoom = { s with log := s.makeRoom.log, ports := s.makeRoom.ports } := by
  unfold State.makeRoom
  split_ifs
  · exact overwriteOldest_frame s
  · rfl

theorem makeRoom_queue (p : Port) :
    s.makeRoom.ports[p].queue = s.ports[p].queue ∧ s.makeRoom.ports[p].notice = s.ports[p].notice := by
  unfold State.makeRoom State.overwriteOldest
  split_ifs
  · split
    · exact ⟨rfl, rfl⟩
    · rw [each_get]
      split_ifs <;> exact ⟨rfl, rfl⟩
  · exact ⟨rfl, rfl⟩

theorem appendRecord_quiet (i : Input) (rising : Bool) (stamp : Stamp) : s.Quiet (s.appendRecord i rising stamp) := by
  have notices (ok : NoticesOk s) : NoticesOk (s.appendRecord i rising stamp) := by
    intro p
    obtain ⟨queue, notice⟩ := makeRoom_queue s p
    have kept : (s.appendRecord i rising stamp).ports[p].queue = s.ports[p].queue
        ∧ (s.appendRecord i rising stamp).ports[p].notice = s.ports[p].notice := by
      rw [appendRecord_eq]
      dsimp only
      rw [each_get]
      split_ifs <;> exact ⟨queue, notice⟩
    rw [kept.1, kept.2]
    exact ok p
  have log := appendRecord_logOk (s := s) i rising stamp
  rw [appendRecord_eq, makeRoom_frame] at notices log ⊢
  exact ⟨rfl, rfl, rfl, rfl, rfl, fun _ => .rfl, notices, log, id⟩

theorem countTick_quiet : s.Quiet s.countTick := by
  refine .of_discipline ?_ countTick_disciplineOk
  cases running : s.running with
  | false => rw [countTick_of_not_running running]
  | true => rw [countTick_of_running running]

theorem rduTick_quiet (before : State) (refp : Bool) : s.Quiet (s.rduTick before refp) :=
  .of_discipline rfl fun ok => disciplineOk_of_same ok rfl rfl rfl rfl rfl rfl rfl rfl rfl

theorem sampleInputs_quiet (samples : TickInput) : s.Quiet (s.sampleInputs samples) := .of_background rfl

theorem timerTick_calibrating (ln : LineUnit) (l : Line) :
    (ln.timerTick l).activity = .calibrating ↔ ln.activity = .calibrating := by
  unfold LineUnit.timerTick
  split_ifs
  · split <;> simp_all
  · rfl

theorem timerTick_quiet : s.Quiet s.timerTick := by
  unfold State.timerTick
  split_ifs
  · exact .lines s fun l => by rw [each_get]; exact timerTick_calibrating _ l
  · exact .refl s

theorem engineTick_quiet : s.Quiet s.engineTick := by
  refine .engine s ?_
  rw [Option.map_map]
  congr 1
  funext c
  simp only [Function.comp, CalRun.tick]
  split_ifs <;> rfl

theorem placePins_quiet : s.Quiet s.placePins := .lines s fun l => by rw [each_get]; rfl

/-- Everything the counting, the samples, the timers and the engine of a tick do is quiet. -/
theorem countAll_quiet (samples : TickInput) : s.Quiet (s.countAll samples) := by
  have counted := (((countTick_quiet s).trans (rduTick_quiet _ s samples.refp)).trans
    (sampleInputs_quiet _ samples)).trans ((timerTick_quiet _).trans (engineTick_quiet _))
  exact counted.trans (.of_background rfl)

end State

end Sys2Proof.Machine
end

section
/-! SUPPORT. What each command can do to the state: nothing, when it is refused or only reports, or the operation it is for. -/

namespace Sys2Proof.Machine

open Sys2Proof.Safety

/-! ### The commands that move no claim, no entry, no run and no timebase state -/

variable (s : State) (p : Port) (args : List Byte)

theorem setTrim_quiet : s.Quiet (setTrim p args s).state := by
  obtain eq | ⟨v, within, eq⟩ := setTrim_cases p args s
  · rw [eq]; exact .refl s
  · rw [eq]
    exact .of_discipline rfl fun ⟨_, rest⟩ => ⟨within, rest⟩

theorem slew_quiet : s.Quiet (slew p args s).state := by
  obtain eq | ⟨v, within, running, off, eq⟩ := slew_cases p args s
  · rw [eq]; exact .refl s
  · rw [eq]
    exact .of_discipline rfl fun ⟨trim, window, _, _, rest⟩ => ⟨trim, window, within, fun _ => ⟨running, off⟩, rest⟩

theorem withReference_quiet {enable autoTrim : Bool} {wide narrow : Nat}
    (good : 16 ≤ narrow ∧ narrow ≤ wide ∧ wide ≤ 524287) (free : enable = true → s.slew = 0) :
    s.Quiet (s.withReference enable autoTrim wide narrow) := by
  have shape : ∃ (ns : List Notice) (r : Rdu),
      s.withReference enable autoTrim wide narrow = ns.foldl State.broadcast { s with rdu := r } := by
    unfold State.withReference
    dsimp only
    split_ifs
    · obtain ⟨ns, r, -, eq⟩ := turnRduOff_cases
        { s with rdu := { s.rdu with enable := enable, autoTrim := autoTrim, wide := wide, narrow := narrow } }
      exact ⟨ns, r, eq⟩
    · exact ⟨[_], _, rfl⟩
    · exact ⟨[], _, rfl⟩
  obtain ⟨ns, r, eq⟩ := shape
  have ok := withReference_disciplineOk (s := s) (autoTrim := autoTrim) good free
  rw [eq, broadcastAll_eq] at ok
  rw [eq]
  exact (State.Quiet.of_discipline (t := { s with rdu := r }) rfl ok).trans (.broadcasts ns _)

theorem setReference_quiet : s.Quiet (setReference p args s).state := by
  obtain eq | ⟨_, _, _, _, good, free, eq⟩ := setReference_cases p args s
  · rw [eq]; exact .refl s
  · rw [eq]
    exact withReference_quiet s good free

theorem configureLine_quiet : s.Quiet (configureLine p args s).state := by
  unfold configureLine
  split
  · exact .refl s
  · split_ifs
    · exact .refl s
    · exact .refl s
    · exact .refl s
    · exact .updLine s .rfl

theorem configureInput_quiet : s.Quiet (configureInput p args s).state := by
  unfold configureInput
  split
  · split_ifs
    · exact .refl s
    · exact .refl s
    · exact .of_background rfl
  · exact .refl s

theorem clearCounter_quiet : s.Quiet (clearCounter p args s).state := by
  unfold clearCounter
  split
  · exact .refl s
  · split_ifs
    · exact .refl s
    · exact .of_background rfl

theorem readStatus_quiet : s.Quiet (readStatus p args s).state := by
  unfold readStatus
  split_ifs
  · exact .refl s
  · exact .updPort s fun _ => ⟨rfl, rfl, rfl⟩
  · exact .refl s

theorem portResetCommand_quiet : s.Quiet (portResetCommand p s).state := .updPort s fun _ => ⟨rfl, rfl, rfl⟩

theorem setAttention_quiet : s.Quiet (setAttention p args s).state := by
  unfold setAttention
  split_ifs
  · exact .refl s
  · exact .updPort s fun _ => ⟨rfl, rfl, rfl⟩

theorem takeNotices_quiet : s.Quiet (takeNotices p args s).state := by
  unfold takeNotices
  dsimp only
  split
  · exact .refl s
  · refine .ports s (fun q ok => ?_) fun q => ?_
    all_goals rw [upd_get]; split_ifs with same
    · subst same
      exact ⟨(List.length_drop ▸ Nat.sub_le _ _).trans ok.1, by simp⟩
    · exact ok
    · rw [← same]
    · rfl

/-! ### The readers of the log -/

theorem evaluateCapture_quiet : s.Quiet (s.evaluateCapture p) := .updPort s fun _ => ⟨rfl, rfl, rfl⟩

/-- Moving one cursor to a place within the log, whatever the subscription becomes, is quiet (R137). -/
theorem moveCursor_quiet {f : Client → Client}
    (same : (f s.ports[p]).queue = s.ports[p].queue ∧ (f s.ports[p]).notice = s.ports[p].notice)
    (within : LogOk s → (s.nextSeq - (f s.ports[p]).cursor).toNat ≤ s.log.length) : s.Quiet (s.updPort p f) := by
  obtain ⟨queue, notice⟩ := same
  refine ⟨rfl, rfl, rfl, rfl, rfl, fun _ => .rfl, fun ok q => ?_, fun ok => ?_, id⟩
  · change Client.QueueOk (upd s.ports p f)[q]
    rw [upd_get]
    split_ifs with same
    · subst same
      unfold Client.QueueOk
      rw [queue, notice]
      exact ok p
    · exact ok q
  · refine logOk_of_cursor (p := p) ok rfl rfl (fun q ne => ?_) ?_
    · rw [State.updPort_ports, upd_other _ _ ne.symm]
    · rw [State.updPort_ports, upd_same]
      exact within ok

theorem subscribe_quiet : s.Quiet (subscribe p args s).state := by
  unfold subscribe
  split
  · exact .refl s
  · refine (moveCursor_quiet s p ⟨rfl, rfl⟩ fun ok => ?_).trans (evaluateCapture_quiet _ p)
    obtain ⟨-, -, inLog⟩ := ok
    dsimp only
    split_ifs with fromNow
    · simp
    · exact inLog p

/-- READ CAPTURES examines no more records than there are. -/
theorem examined_le (mask : BitVec 8) (rs : List CaptureRecord) : ∀ max : Nat, (examine mask max rs).2 ≤ rs.length := by
  induction rs with
  | nil => intro max; simp [examine]
  | cons r rs ih =>
    intro max
    cases max with
    | zero => simp [examine]
    | succ max =>
      rw [examine]
      split_ifs
      · simpa using ih max
      · simpa using ih (max + 1)

theorem length_unread_le (cursor : Seq) : (s.unread cursor).length ≤ (s.nextSeq - cursor).toNat := by
  unfold State.unread
  rw [List.length_drop]
  omega

theorem readCaptures_quiet : s.Quiet (readCaptures p args s).state := by
  unfold readCaptures
  dsimp only
  split_ifs
  · exact .refl s
  · refine (moveCursor_quiet s p ⟨rfl, rfl⟩ fun ok => ?_).trans (evaluateCapture_quiet _ p)
    obtain ⟨-, -, inLog⟩ := ok
    exact cursor_le_passed (inLog p) ((examined_le _ _ _).trans (length_unread_le s _))

/-! ### The commands that move a claim, an entry or a run -/

theorem claim_cases : (claim p args s).state = s
    ∨ (∃ r, s.claims[r].holder = none ∧ (claim p args s).state = s.updClaim r fun c => { c with holder := some p })
    ∨ ∃ r h, s.claims[r].holder = some h ∧ h ≠ p ∧ p ∉ s.claims[r].waiters
        ∧ (claim p args s).state = s.updClaim r fun c => { c with waiters := s.claims[r].waiters ++ [p] } := by
  unfold claim
  split
  · exact .inl rfl
  next r _ =>
    by_cases flag : 1 < arg args 1
    · rw [if_pos flag]
      exact .inl rfl
    rw [if_neg flag]
    dsimp only
    split
    next free => exact .inr (.inl ⟨r, free, rfl⟩)
    next h held =>
      by_cases own : h = p
      · rw [if_pos own]
        exact .inl rfl
      rw [if_neg own]
      by_cases refused : arg args 1 = 0
      · rw [if_pos refused]
        exact .inl rfl
      rw [if_neg refused]
      by_cases waiting : p ∈ s.claims[r].waiters
      · simp only [List.contains_iff_mem.mpr waiting, if_true]
        exact .inl (s.updClaim_of_fixed r _ rfl)
      · have absent : s.claims[r].waiters.contains p = false := by simpa using waiting
        simp only [absent, Bool.false_eq_true, if_false]
        exact .inr (.inr ⟨r, h, held, own, waiting, rfl⟩)

theorem release_cases : (release p args s).state = s
    ∨ (∃ r, s.claims[r].holder = some p ∧ (release p args s).state = s.giveUp false p r)
    ∨ ∃ r, (release p args s).state = s.updClaim r fun c => c.leave p := by
  unfold release
  split
  · exact .inl rfl
  next r _ =>
    dsimp only
    split_ifs with held
    · exact .inr (.inl ⟨r, held, rfl⟩)
    · exact .inr (.inr ⟨r, rfl⟩)
    · exact .inl rfl

/-- SCHEDULE with every check passed: the entry is placed, then checked (R67, R72). -/
theorem schedule_carriedOut {k : Slot} (timed : s.timebase ≠ .unset) (good : scheduleArgsOk args = true)
    (use : s.mayUse p (entryArg p args).job = true) (free : s.freeSlot = some k) (quota : s.entryCount p < 24)
    (fresh : (entryArg p args).isPast s.time = false) :
    schedule p args s = ((s.placeEntry k (entryArg p args)).checkNew (entryArg p args)).ok
      (handleBytes (s.handleOf k)) := by
  have room : ¬ Config.quota ≤ s.entryCount p := Nat.not_le.mpr quota
  simp only [schedule, timed, good, use, free, room, fresh, Bool.not_true, Bool.false_eq_true, if_false]

/-- SCHEDULE refused, or its entry placed in the lowest empty slot. -/
theorem schedule_cases : (schedule p args s).state = s
    ∨ ∃ k, s.timebase ≠ .unset ∧ scheduleArgsOk args = true ∧ s.mayUse p (entryArg p args).job = true
        ∧ s.freeSlot = some k ∧ s.entryCount p < 24
        ∧ (schedule p args s).state = (s.placeEntry k (entryArg p args)).checkNew (entryArg p args) := by
  by_cases timed : s.timebase = .unset
  · exact .inl (by simp [schedule, timed, State.refuse])
  cases good : scheduleArgsOk args with
  | false => exact .inl (by simp [schedule, timed, good, State.refuse])
  | true =>
    cases use : s.mayUse p (entryArg p args).job with
    | false => exact .inl (by simp [schedule, timed, good, use, State.refuse])
    | true =>
      cases free : s.freeSlot with
      | none => exact .inl (by simp [schedule, timed, good, use, free, State.refuse])
      | some k =>
        by_cases quota : s.entryCount p < 24
        · cases fresh : (entryArg p args).isPast s.time with
          | true =>
            have room : ¬ Config.quota ≤ s.entryCount p := Nat.not_le.mpr quota
            exact .inl (by simp [schedule, timed, good, use, free, room, fresh, State.refuse])
          | false =>
            rw [schedule_carriedOut s p args timed good use free quota fresh]
            exact .inr ⟨k, timed, rfl, rfl, rfl, quota, rfl⟩
        · have full : Config.quota ≤ s.entryCount p := Nat.le_of_not_lt quota
          exact .inl (by simp [schedule, timed, good, use, free, full, State.refuse])

theorem cancel_cases : (cancel p args s).state = s ∨ ∃ k, (cancel p args s).state = s.removeEntry k := by
  unfold cancel
  split
  · exact .inl rfl
  · split
    · exact .inl rfl
    · exact .inr ⟨_, rfl⟩

theorem calibrate_cases : (calibrate p args s).state = s
    ∨ ∃ l i, s.claims[lineResource l].holder = some p ∧ s.claims[inputResource i].holder = some p
        ∧ s.timebase = .running ∧ s.calRun = none ∧ (calibrate p args s).state = s.startRun p l i := by
  unfold calibrate
  split
  next l i _ _ =>
    split_ifs with mine running idle steady
    · exact .inl rfl
    · exact .inl rfl
    · exact .inl rfl
    · exact .inl rfl
    · simp only [Bool.not_eq_true', Bool.not_eq_false, Bool.and_eq_true, State.holds_iff] at mine
      exact .inr ⟨l, i, mine.1, mine.2, by simpa [State.running] using running, by simpa using idle, rfl⟩
  · exact .inl rfl

/-! ### The commands that only report -/

theorem queryEntry_state : (queryEntry p args s).state = s := by
  unfold queryEntry
  split
  · rfl
  · split <;> rfl

theorem readLine_state : (readLine args s).state = s := by
  unfold readLine
  split <;> rfl

theorem readCalibration_state : (readCalibration args s).state = s := by
  unfold readCalibration
  split <;> rfl

end Sys2Proof.Machine
end

section
/-! SUPPORT. The induction over a step, made once: a property that survives the quiet changes and the few operations on claims,
entries, runs and timebase states survives every due step, every command and every step of the part. -/

namespace Sys2Proof.Machine

open Sys2Proof.Safety

/-- What a property of the state has to survive to survive every step. -/
structure Invariant (P : State → Prop) : Prop where
  quiet : ∀ {s t : State}, s.Quiet t → P s → P t
  fireCheck : ∀ {s : State} (wrapped : Bool) (now : TimeValue), P s → P (s.fireCheck wrapped now)
  triggerAll : ∀ {s : State} (i : Input) (time : TimeValue), P s → P (s.triggerAll i time)
  finishRun : ∀ {s : State} {c : CalRun} (d : Phase) (r : CalResult), s.calRun = some c → P s → P (s.finishRun c d r)
  load : ∀ {s : State}, s.timebase ≠ .running → P s → P { s with timebase := .held }
  halt : ∀ {s : State}, s.timebase = .running → P s → P s.halt
  resume : ∀ {s : State}, s.timebase = .held → P s → P s.resume
  take : ∀ {s : State} {r : Resource} (p : Port), s.claims[r].holder = none → P s →
    P (s.updClaim r fun c => { c with holder := some p })
  join : ∀ {s : State} {r : Resource} {h p : Port}, s.claims[r].holder = some h → h ≠ p → p ∉ s.claims[r].waiters →
    P s → P (s.updClaim r fun c => { c with waiters := s.claims[r].waiters ++ [p] })
  giveUp : ∀ {s : State} {r : Resource} {p : Port} (byReset : Bool), s.claims[r].holder = some p → P s →
    P (s.giveUp byReset p r)
  shorten : ∀ {s : State} (claims : Vector ClaimRecord 17),
    (∀ r : Resource, claims[r].holder = s.claims[r].holder ∧ claims[r].waiters.Sublist s.claims[r].waiters) →
    P s → P { s with claims := claims }
  place : ∀ {s : State} {p : Port} {args : List Byte} {k : Slot}, s.timebase ≠ .unset → scheduleArgsOk args = true →
    s.mayUse p (entryArg p args).job = true → s.slots[k] = none → s.entryCount p < 24 → P s →
    P (s.placeEntry k (entryArg p args))
  remove : ∀ {s : State} (k : Slot), P s → P (s.removeEntry k)
  startRun : ∀ {s : State} {p : Port} {l : Line} {i : Input}, s.claims[lineResource l].holder = some p →
    s.claims[inputResource i].holder = some p → s.timebase = .running → s.calRun = none → P s → P (s.startRun p l i)
  deviceReset : ∀ {s : State}, P s → P s.deviceReset
  retainedReset : ∀ {s : State}, P s → P s.clearRetained.deviceReset

/-! ### The last quiet operations -/

namespace State

variable (s : State) (p : Port)

theorem stray_quiet (off : Int) (strays : BitVec 16) :
    s.Quiet { s with rdu := { s.rdu with lastOffset := off, strays := strays } } :=
  .of_discipline rfl fun ok => disciplineOk_of_same ok rfl rfl rfl rfl rfl rfl rfl rfl rfl

/-- The port's own items after its reset are an empty queue and a cursor at the next Seq. -/
theorem clearPort_quiet : s.Quiet (s.clearPort p) := by
  refine ⟨rfl, rfl, rfl, rfl, rfl, fun _ => .rfl, fun ok q => ?_, fun ok => ?_, id⟩
  · change Client.QueueOk (upd s.ports p _)[q]
    rw [upd_get]
    split_ifs
    · exact ⟨by simp [Client.portReset, Client.reset], by simp [Client.portReset, Client.reset]⟩
    · exact ok q
  · refine logOk_of_cursor (p := p) ok rfl rfl (fun q ne => ?_) ?_
    · rw [State.clearPort, State.updPort_ports, upd_other _ _ ne.symm]
    · rw [State.clearPort, State.updPort_ports, upd_same]
      simp [Client.portReset]

theorem responseEnds_quiet : s.Quiet (s.responseEnds p) := by
  unfold State.responseEnds
  split_ifs
  · exact State.Quiet.trans (.updPort s (p := p) (f := fun c => { c with resetPending := false }) fun _ => ⟨rfl, rfl, rfl⟩)
      (.of_background rfl)
  · exact .refl s

theorem openTransaction_quiet : s.Quiet (s.openTransaction p) :=
  .updPort s fun _ => by split_ifs <;> exact ⟨rfl, rfl, rfl⟩

theorem closeTransaction_quiet (clocked : Bool) : s.Quiet (s.closeTransaction p clocked) := by
  refine State.Quiet.trans ?_ (responseEnds_quiet _ p)
  exact .updPort s fun _ => ⟨rfl, rfl, rfl⟩

theorem endResponse_quiet : s.Quiet (s.endResponse p) := by
  refine State.Quiet.trans ?_ (responseEnds_quiet _ p)
  exact .updPort s fun _ => ⟨rfl, rfl, rfl⟩

end State

namespace Invariant

variable {P : State → Prop} {s : State}

/-- A fold of operations each of which keeps the property. -/
theorem foldl {α : Type} {f : State → α → State} (h : ∀ (s : State) (a : α), P s → P (f s a)) (as : List α) :
    ∀ s : State, P s → P (as.foldl f s) := by
  induction as with
  | nil => exact fun s ok => ok
  | cons a as ih => exact fun s ok => ih (f s a) (h s a ok)

variable (inv : Invariant P)

include inv

/-! ### The due steps -/

theorem abortCalibration (reason : AbortReason) (ok : P s) : P (s.abortCalibration reason) := by
  unfold State.abortCalibration
  split
  · exact ok
  next c run =>
    dsimp only
    split_ifs
    · exact inv.finishRun _ _ run ok
    · exact inv.quiet (.offer _ _ _) (inv.finishRun _ _ run ok)

theorem calRunEnd (ok : P s) : P s.calRunEnd := by
  unfold State.calRunEnd
  split
  next c run => exact inv.quiet (.offer _ _ _) (inv.finishRun _ _ run ok)
  next => exact ok

theorem checkForward (off : Int) (before : TimeValue) (ok : P s) : P (s.checkForward off before) := by
  unfold State.checkForward
  split_ifs
  · exact inv.fireCheck _ _ ok
  · exact ok

theorem refpEdge (ok : P s) : P s.refpEdge := by
  obtain ⟨-, eq⟩ | ⟨-, eq⟩ | ⟨on, r, ns, acquired, eq⟩ := refpEdge_cases s
  · rwa [eq]
  · rw [eq]
    exact inv.quiet (State.stray_quiet s _ _) ok
  · rw [eq]
    have aligned : s.Quiet (s.aligned r) := .of_discipline rfl fun ok => aligned_disciplineOk ok on acquired
    exact inv.checkForward _ _ (inv.quiet (aligned.trans (.broadcasts ns _)) ok)

theorem trigger (i : Input) (time : TimeValue) (ok : P s) : P (s.trigger i time) := by
  unfold State.trigger
  split_ifs
  · exact inv.fireCheck _ _ (inv.triggerAll i time ok)
  · exact inv.triggerAll i time ok

theorem edgeAccepted (i : Input) (ok : P s) : P (s.edgeAccepted i) := by
  unfold State.edgeAccepted
  split
  · exact ok
  · dsimp only
    split_ifs
    · exact inv.trigger _ _ (inv.quiet ((State.Quiet.of_background rfl).trans (State.appendRecord_quiet _ _ _ _)) ok)
    · exact inv.quiet (.of_background rfl) ok

/-! ### A port reset (R172) -/

theorem releaseHeld (p : Port) (r : Resource) (ok : P s) : P (s.releaseHeld p r) := by
  unfold State.releaseHeld
  split_ifs with held
  · exact inv.giveUp true ((s.holds_iff p r).mp held) ok
  · exact ok

theorem leaveLists (p : Port) (ok : P s) : P (s.leaveLists p) :=
  inv.shorten _ (fun r => by rw [each_get]; exact ⟨rfl, List.filter_sublist⟩) ok

theorem releaseAll (p : Port) (ok : P s) : P (s.releaseAll p) :=
  inv.leaveLists p (Invariant.foldl (fun _ r ok => inv.releaseHeld p r ok) _ s ok)

theorem removeWhere (f : Entry → Bool) (ok : P s) : P (s.removeWhere f) :=
  Invariant.foldl (fun _ k ok => inv.remove k ok) _ s ok

theorem abortOwn (p : Port) (ok : P s) : P (s.abortOwn p) := by
  unfold State.abortOwn
  split
  · split_ifs
    · exact inv.abortCalibration _ ok
    · exact ok
  · exact ok

theorem portReset (p : Port) (ok : P s) : P (s.portReset p) :=
  inv.quiet (State.clearPort_quiet _ p) (inv.abortOwn p (inv.removeWhere _ (inv.releaseAll p ok)))

theorem perform (e : Event) (ok : P s) : P (s.perform e) := by
  cases e with
  | slewDone => exact inv.quiet (.broadcast _ _) ok
  | windowEnd => exact inv.quiet s.windowEnd_quiet ok
  | crossing => exact inv.quiet s.crossing_quiet ok
  | pulseEnd l => exact inv.quiet (s.pulseEnd_quiet l) ok
  | waveHighEnd l => exact inv.quiet (s.waveHighEnd_quiet l) ok
  | waveCycleEnd l => exact inv.quiet (s.waveCycleEnd_quiet l) ok
  | waveCompletion l => exact inv.quiet (s.waveCompletion_quiet l) ok
  | calStepStart => exact inv.quiet s.calStepStart_quiet ok
  | calLeadingEdge => exact inv.quiet s.calLeadingEdge_quiet ok
  | calTrialJudged => exact inv.quiet s.calTrialJudged_quiet ok
  | calTrailingEdge => exact inv.quiet s.calTrailingEdge_quiet ok
  | calStepJudged => exact inv.quiet s.calStepJudged_quiet ok
  | calRunEnd => exact inv.calRunEnd ok
  | edgeAccepted i => exact inv.edgeAccepted i ok
  | refpEdge => exact inv.refpEdge ok
  | portResetTaken p => exact inv.portReset p ok

theorem takeOne (e : Event) (ok : P s) : P (s.takeOne e) := by
  unfold State.takeOne
  split_ifs
  · exact inv.perform e (inv.quiet (.of_background rfl) ok)
  · exact ok

theorem takeAll (es : List Event) (ok : P s) : P (es.foldl State.takeOne s) :=
  Invariant.foldl (fun _ e ok => inv.takeOne e ok) es s ok

theorem settle (ok : P s) : P s.settle := inv.takeAll _ ok

theorem endJudgedRun (ok : P s) : P s.endJudgedRun := by
  unfold State.endJudgedRun
  split_ifs
  · exact inv.takeOne _ ok
  · exact ok

theorem takeEvent (e : Event) (ok : P s) : P (s.takeEvent e) := by
  unfold State.takeEvent State.prepare
  split_ifs
  · exact inv.takeOne e (inv.takeAll _ (inv.endJudgedRun ok))
  · exact inv.takeOne e (inv.takeAll _ ok)
  · exact ok

/-! ### The prescaler tick -/

theorem mainTick (samples : TickInput) (order : TickOrder) (ok : P s) : P (s.mainTick samples order) := by
  have counted : P (s.placePins.countAll samples) :=
    inv.quiet (s.placePins_quiet.trans (State.countAll_quiet _ samples)) ok
  have told : P ((s.placePins.countAll samples).tellSlewDone s) := by
    unfold State.tellSlewDone
    split_ifs
    · exact inv.takeOne _ counted
    · exact counted
  have early := inv.endJudgedRun (Invariant.foldl (fun _ e ok => inv.takeEvent e ok) (order.early.filter mayPrecedeCheck) _ told)
  have checked : P (State.advanceCheck (State.endJudgedRun ((order.early.filter mayPrecedeCheck).foldl State.takeEvent
      ((s.placePins.countAll samples).tellSlewDone s))) s) := by
    unfold State.advanceCheck
    split_ifs
    · exact inv.fireCheck _ _ early
    · exact early
  unfold State.mainTick
  dsimp only
  split_ifs
  · exact inv.takeOne _ checked
  · exact checked

theorem prescalerTick (samples : TickInput) (order : TickOrder) (ok : P s) : P (s.prescalerTick samples order) := by
  have settled : P (if order.refpAfter then s.settleBut .refpEdge else s.settle) := by
    split_ifs
    · exact inv.takeAll _ ok
    · exact inv.settle ok
  unfold State.prescalerTick
  generalize (if order.refpAfter then s.settleBut .refpEdge else s.settle) = u at settled ⊢
  dsimp only
  split_ifs
  · exact inv.mainTick samples order settled
  · exact inv.quiet u.countTick_quiet settled
  · exact settled

/-! ### The commands -/

theorem schedule (p : Port) (args : List Byte) (ok : P s) : P (schedule p args s).state := by
  obtain eq | ⟨k, timed, good, use, free, quota, eq⟩ := schedule_cases s p args
  · rwa [eq]
  · rw [eq]
    have empty : s.slots[k] = none := by simpa using List.find?_some free
    have placed := inv.place timed good use empty quota ok
    unfold State.checkNew
    split
    · split_ifs
      · exact inv.fireCheck _ _ placed
      · exact placed
    · exact placed

theorem release (p : Port) (args : List Byte) (ok : P s) : P (release p args s).state := by
  obtain eq | ⟨r, held, eq⟩ | ⟨r, eq⟩ := release_cases s p args
  · rwa [eq]
  · rw [eq]
    exact inv.giveUp false held ok
  · rw [eq]
    refine inv.shorten _ (fun q => ?_) ok
    rw [upd_get]
    split_ifs with same
    · subst same
      exact ⟨rfl, List.filter_sublist⟩
    · exact ⟨rfl, .refl _⟩

theorem claim (p : Port) (args : List Byte) (ok : P s) : P (claim p args s).state := by
  obtain eq | ⟨r, free, eq⟩ | ⟨r, h, held, other, absent, eq⟩ := claim_cases s p args <;> rw [eq]
  · exact ok
  · exact inv.take p free ok
  · exact inv.join held other absent ok

theorem calibrate (p : Port) (args : List Byte) (ok : P s) : P (calibrate p args s).state := by
  obtain eq | ⟨l, i, line, input, running, idle, eq⟩ := calibrate_cases s p args <;> rw [eq]
  · exact ok
  · exact inv.startRun line input running idle ok

theorem cancel (p : Port) (args : List Byte) (ok : P s) : P (cancel p args s).state := by
  obtain eq | ⟨k, eq⟩ := cancel_cases s p args <;> rw [eq]
  · exact ok
  · exact inv.remove k ok

theorem hold (p : Port) (ok : P s) : P (hold p s).state := by
  obtain eq | ⟨running, eq⟩ := hold_cases p s <;> rw [eq]
  · exact ok
  · exact inv.quiet (.broadcast _ _) (inv.halt running ok)

theorem loadTime (p : Port) (args : List Byte) (ok : P s) : P (loadTime p args s).state := by
  obtain eq | ⟨stopped, eq⟩ := loadTime_cases p args s <;> rw [eq]
  · exact ok
  · have held := inv.load stopped ok
    exact inv.quiet (.broadcast _ _) (inv.quiet (s := { s with timebase := .held }) (.of_background rfl) held)

theorem run (p : Port) (ok : P s) : P (run p s).state := by
  obtain eq | ⟨held, eq⟩ := run_cases p s <;> rw [eq]
  · exact ok
  · have resumed := inv.resume held ok
    have searching : P (if s.rdu.enable then s.resume.refStateChanged .searching s.time else s.resume) := by
      split_ifs
      · exact inv.quiet (.broadcast _ _) resumed
      · exact resumed
    exact inv.fireCheck _ _ (inv.quiet ((State.Quiet.of_background rfl).trans (.broadcast _ _)) searching)

/-- Every client command's block keeps the property. -/
theorem request {c : Instr} {q : Request} (h : requestOf c = some q) (ok : P s) : P (q.body s).state := by
  cases c <;> cases h
  case identify | readTime | readReference | queryClaims | listEntries | readCounters => exact ok
  case readStatus p args => exact inv.quiet (readStatus_quiet s p args) ok
  case portReset p args => exact inv.quiet (portResetCommand_quiet s p) ok
  case hold p args => exact inv.hold p ok
  case loadTime p args => exact inv.loadTime p args ok
  case run p args => exact inv.run p ok
  case setTrim p args => exact inv.quiet (setTrim_quiet s p args) ok
  case slew p args => exact inv.quiet (slew_quiet s p args) ok
  case setReference p args => exact inv.quiet (setReference_quiet s p args) ok
  case claim p args => exact inv.claim p args ok
  case release p args => exact inv.release p args ok
  case schedule p args => exact inv.schedule p args ok
  case cancel p args => exact inv.cancel p args ok
  case queryEntry p args => dsimp only; rwa [queryEntry_state]
  case configureLine p args => exact inv.quiet (configureLine_quiet s p args) ok
  case readLine p args => dsimp only; rwa [readLine_state]
  case configureInput p args => exact inv.quiet (configureInput_quiet s p args) ok
  case subscribe p args => exact inv.quiet (subscribe_quiet s p args) ok
  case readCaptures p args => exact inv.quiet (readCaptures_quiet s p args) ok
  case clearCounter p args => exact inv.quiet (clearCounter_quiet s p args) ok
  case calibrate p args => exact inv.calibrate p args ok
  case readCalibration p args => dsimp only; rwa [readCalibration_state]
  case takeNotices p args => exact inv.quiet (takeNotices_quiet s p args) ok
  case setAttention p args => exact inv.quiet (setAttention_quiet s p args) ok

theorem takeFrame {p : Port} {args : List Byte} {k : State → State} {t : State} (h : ∀ {s : State}, P s → P (k s))
    (ok : P s) (next : takeFrame p args k s = .next t) : P t := by
  rcases takeFrame_cases p args k s with eq | eq | eq <;> rw [eq] at next <;> cases next
  · exact inv.settle ok
  · exact inv.quiet (State.overlong_quiet _ p) (inv.settle ok)
  · exact h (inv.settle ok)

/-! ### Every row, and every step -/

theorem holdPortInReset (p : Port) (ok : P s) : P (s.holdPortInReset p) := by
  have low : P (s.updPort p fun c => { c with rstLow := true }) := inv.quiet (.updPort s fun _ => ⟨rfl, rfl, rfl⟩) ok
  unfold State.holdPortInReset
  dsimp only
  split_ifs
  · exact inv.portReset p low
  · exact inv.quiet (.updPort _ fun _ => ⟨rfl, rfl, rfl⟩) low

/-- A device reset with some supplies changed. -/
theorem reset {t : State} (supplies : s.Quiet t) (ok : P s) : P t.deviceReset := inv.deviceReset (inv.quiet supplies ok)

/-- The rows that are neither client commands nor due steps keep the property. -/
theorem event {c : Instr} {t : State} (h : requestOf c = none) (k : eventOf c = none) (ok : P s)
    (next : exec c s = .next t) : P t := by
  have settled := inv.settle ok
  cases c
  case badCommand p code args =>
    rw [exec_badCommand] at next
    refine inv.takeFrame (fun ok => ?_) ok next
    split_ifs
    · exact ok
    · exact inv.quiet (State.respond_quiet _ _ _ _) ok
  case badFrame p code args check =>
    rw [exec_badFrame] at next
    refine inv.takeFrame (fun ok => ?_) ok next
    split_ifs
    · exact ok
    · refine inv.quiet (State.respond_quiet _ _ _ _) (inv.quiet ?_ ok)
      exact .updPort _ fun _ => ⟨rfl, rfl, rfl⟩
  case pncsFall p =>
    cases next
    split_ifs
    · exact settled
    · exact inv.quiet (State.openTransaction_quiet _ p) settled
  case pncsRise p clocked =>
    cases next
    split_ifs
    · exact inv.quiet (State.closeTransaction_quiet _ p clocked) settled
    · exact settled
  case argumentLengthOver24 p code length =>
    cases next
    split_ifs
    · exact inv.quiet (State.overlong_quiet _ p) settled
    · exact settled
  case pnrstFall p =>
    have dropped : P (s.dropWork fun e => e == .portResetTaken p && !s.ports[p].rstLow).settle :=
      inv.settle (inv.quiet (.of_background rfl) ok)
    cases next
    split_ifs
    · exact dropped
    · exact inv.holdPortInReset p dropped
  case pnrstRise p =>
    cases next
    split_ifs
    · exact inv.quiet (.updPort _ fun _ => ⟨rfl, rfl, rfl⟩) settled
    · exact settled
  case deviceReset cause =>
    cases next
    cases cause
    · exact inv.reset (.of_background rfl) settled
    · exact inv.reset (.of_background rfl) settled
  case nrstRise =>
    cases next
    exact inv.quiet (.of_background rfl) settled
  case retainedReset =>
    cases next
    exact inv.retainedReset (s := { s.settle with vddr := true }) (inv.quiet (.of_background rfl) settled)
  case mainSupplyLoss =>
    cases next
    exact inv.reset (.of_background rfl) settled
  case vddrLoss =>
    cases next
    exact inv.retainedReset (s := { s.settle with vddr := false }) (inv.quiet (.of_background rfl) settled)
  case prescalerTick samples order =>
    cases next
    exact inv.prescalerTick samples order ok
  case lastResponseByteSent p =>
    cases next
    split_ifs
    · exact inv.quiet (State.endResponse_quiet _ p) settled
    · exact settled
  all_goals cases k <;> cases h

theorem exec {c : Instr} {t : State} (ok : P s) (next : exec c s = .next t) : P t := by
  cases request : requestOf c with
  | some q =>
    rw [exec_of_request request] at next
    refine inv.takeFrame (fun ok => ?_) ok next
    unfold answerCommand
    split_ifs
    · exact inv.quiet (State.respond_quiet _ _ _ _) (inv.request request ok)
    · exact inv.quiet (State.respond_quiet _ _ _ _) ok
  | none =>
    cases event : eventOf c with
    | some e =>
      rw [exec_of_event event] at next
      cases next
      exact inv.takeEvent e ok
    | none => exact inv.event request event ok next

/-- Every step keeps the property. -/
theorem step {t : State} (ok : P s) (next : step s = .next t) : P t := by
  unfold Machine.step at next
  split at next
  · cases next
    exact ok
  · exact inv.exec (inv.quiet (.of_background rfl) ok) next

end Invariant

end Sys2Proof.Machine
end

section
/-! SUPPORT. What the queues, the log, the discipline and the claims go through in a firing check, a release and a reset: they
stay in order, so every step keeps them (R13 to R40, R46, R133, R137, R157, R161). -/

namespace Sys2Proof.Machine

open Sys2Proof.Safety

/-! ### Relations that a firing check respects -/

/-- What survives every occurrence survives a firing check. -/
theorem fireCheck_keeps {P : State → Prop} (h : ∀ (s : State) wrapped now k, P s → P (s.occurrence wrapped now k))
    (wrapped : Bool) (now : TimeValue) {s : State} (ok : P s) : P (s.fireCheck wrapped now) := by
  have loop (fuel : Nat) : ∀ s : State, P s → P (fireLoop fuel now s) := by
    induction fuel with
    | zero => exact fun s ok => ok
    | succ n ih =>
      intro s ok
      unfold fireLoop
      split
      · exact ok
      · split_ifs
        · exact ok
        · exact ih _ (h s _ _ _ ok)
  unfold State.fireCheck State.takeDue
  split_ifs
  · exact loop _ _ (Invariant.foldl (fun s k ok => h s true now k ok) s.dueOrder s ok)
  · exact loop _ _ ok

/-- A relation between the state before and after that an occurrence respects: what it delivers, tells and makes of its entry. -/
structure FiringClosed (R : State → State → Prop) : Prop where
  refl : ∀ s, R s s
  trans : ∀ {s t u}, R s t → R t u → R s u
  offer : ∀ (s : State) p n, R s (s.offer p n)
  deliver : ∀ (s : State) l a, R s (s.deliver l a)
  table : ∀ (s : State) slots gens order, R s { s with slots := slots, gens := gens, dueOrder := order }

namespace FiringClosed

variable {R : State → State → Prop} (closed : FiringClosed R) (s : State)

include closed

theorem foldl {α : Type} {f : State → α → State} (h : ∀ (s : State) (a : α), R s (f s a)) (as : List α) (s : State) :
    R s (as.foldl f s) :=
  Invariant.foldl (P := R s) (fun u a ok => closed.trans ok (h u a)) as s (closed.refl s)

theorem settleEntry (k : Slot) (e : Entry) (next : Option (TimeValue × Count)) : R s (s.settleEntry k e next) := by
  unfold State.settleEntry State.finishEntry
  split
  · exact closed.table s _ _ _
  · split <;> exact closed.table s _ _ _

theorem noticeOccurrence (e : Entry) (h : Handle) (v : Verdict) (st : Settlement) (now : TimeValue) :
    R s (s.noticeOccurrence e h v st now) := by
  unfold State.noticeOccurrence
  split_ifs
  · exact closed.offer s _ _
  · exact closed.refl s

theorem deliverOccurrence (v : Verdict) (j : Job) : R s (s.deliverOccurrence v j) := by
  unfold State.deliverOccurrence
  split
  · exact closed.refl s
  · exact closed.refl s
  · exact closed.deliver s _ _

theorem occurrence (wrapped : Bool) (now : TimeValue) (k : Slot) : R s (s.occurrence wrapped now k) := by
  unfold State.occurrence
  split
  · exact closed.table s _ _ _
  · exact closed.trans (closed.trans (closed.deliverOccurrence s _ _) (closed.noticeOccurrence _ _ _ _ _ _))
      (closed.settleEntry _ _ _ _)

theorem fireCheck (wrapped : Bool) (now : TimeValue) : R s (s.fireCheck wrapped now) :=
  fireCheck_keeps (P := R s) (fun u w n k ok => closed.trans ok (closed.occurrence u w n k)) wrapped now (closed.refl s)

theorem removeEntries (ks : List Slot) : R s (s.removeEntries ks) :=
  closed.foldl (fun s _ => closed.table s _ _ _) ks s

theorem triggerAll (i : Input) (time : TimeValue) : R s (s.triggerAll i time) := by
  refine closed.foldl (fun s k => ?_) _ s
  unfold State.triggerSlot
  split
  · exact closed.table s _ _ _
  · exact closed.refl s

end FiringClosed

/-- A relation that respects every operation on lines, runs, queues and entries. -/
structure OperationClosed (R : State → State → Prop) : Prop where
  refl : ∀ s, R s s
  trans : ∀ {s t u}, R s t → R t u → R s u
  offer : ∀ (s : State) p n, R s (s.offer p n)
  finishRun : ∀ (s : State) c d r, R s (s.finishRun c d r)
  cancelTimer : ∀ (s : State) l, R s (s.cancelTimer l)
  updLine : ∀ (s : State) l f, R s (s.updLine l f)
  table : ∀ (s : State) slots gens order, R s { s with slots := slots, gens := gens, dueOrder := order }

namespace OperationClosed

variable {R : State → State → Prop} (closed : OperationClosed R) (s : State)

include closed

theorem abortCalibration (r : AbortReason) : R s (s.abortCalibration r) := by
  unfold State.abortCalibration
  split
  · exact closed.refl s
  · dsimp only
    split_ifs
    · exact closed.finishRun s _ _ _
    · exact closed.trans (closed.finishRun s _ _ _) (closed.offer _ _ _)

theorem abortOn (l : Line) (r : AbortReason) : R s (s.abortOn l r) := by
  unfold State.abortOn
  split_ifs
  · exact closed.abortCalibration s r
  · exact closed.refl s

theorem firing : FiringClosed R where
  refl := closed.refl
  trans := closed.trans
  offer := closed.offer
  deliver s l _ := closed.trans (closed.trans (closed.abortOn s l _) (closed.cancelTimer _ l)) (closed.updLine _ l _)
  table := closed.table

theorem cascade (byReset : Bool) (p : Port) (r : Resource) : R s (s.cascade byReset p r) := by
  unfold State.cascade State.cascadeLine State.cascadeInput
  split_ifs with h
  · exact closed.trans (closed.trans (closed.trans (closed.abortOn s _ _) (closed.cancelTimer _ _))
      (closed.updLine _ _ _)) (closed.firing.removeEntries _ _)
  · exact closed.abortCalibration s _
  · exact closed.refl s
  · exact closed.refl s

end OperationClosed

/-- Firing leaves what it leaves also where a release, a trigger or a removal is made of its operations. -/
theorem keptByFiring_closed : OperationClosed State.KeptByFiring where
  refl := .refl
  trans := .trans
  offer := State.offer_kept
  finishRun _ _ _ _ := .of_ports rfl fun _ => .refl _
  cancelTimer := State.cancelTimer_kept
  updLine := State.updLine_kept
  table _ _ _ _ := .of_ports rfl fun _ => .refl _

/-- Placing an entry changes the table alone. -/
theorem placeEntry_frame (s : State) (k : Slot) (e : Entry) :
    s.placeEntry k e = { s with slots := (s.placeEntry k e).slots, dueOrder := (s.placeEntry k e).dueOrder } := by
  unfold State.placeEntry
  split <;> rfl

theorem placeEntry_kept (s : State) (k : Slot) (e : Entry) : s.KeptByFiring (s.placeEntry k e) := by
  rw [placeEntry_frame]
  exact .of_ports rfl fun _ => .refl _

/-- The claim record of a resource after it is given up (R46). -/
def ClaimRecord.passedOn (c : ClaimRecord) : ClaimRecord :=
  match c.waiters with
  | [] => { holder := none, waiters := [] }
  | w :: rest => { holder := some w, waiters := rest }

/-- A grant passes the resource on and makes at most one notice. -/
theorem grant_cases (s : State) (r : Resource) :
    s.grant r = s.updClaim r ClaimRecord.passedOn
    ∨ ∃ w, s.grant r = (s.updClaim r ClaimRecord.passedOn).offer w (plainNotice .granted s.time r.val) := by
  have same (c : ClaimRecord) (h : s.claims[r].passedOn = c) :
      (s.updClaim r fun _ => c) = s.updClaim r ClaimRecord.passedOn := by
    rw [State.updClaim, State.updClaim, upd, upd, h]
  unfold State.grant
  split
  next none => exact .inl (same _ (by rw [ClaimRecord.passedOn, none]))
  next w rest some => exact .inr ⟨w, by rw [same _ (by rw [ClaimRecord.passedOn, some])]⟩

/-! ### The queues -/

theorem noticesFiring : OperationClosed fun s t => NoticesOk s → NoticesOk t where
  refl _ := id
  trans h k := k ∘ h
  offer s p n := (State.Quiet.offer s p n).notices
  finishRun _ _ _ _ := id
  cancelTimer _ _ := id
  updLine _ _ _ := id
  table _ _ _ _ := id

theorem grant_noticesOk {s : State} (r : Resource) (ok : NoticesOk s) : NoticesOk (s.grant r) := by
  obtain eq | ⟨w, eq⟩ := grant_cases s r <;> rw [eq]
  · exact ok
  · exact (State.Quiet.offer _ _ _).notices ok

theorem storeAll_queueOk (ns : List Notice) : ∀ {c : Client}, c.QueueOk → (ns.foldl Client.store c).QueueOk := by
  induction ns with
  | nil => exact id
  | cons n ns ih => exact fun ok => ih (Client.store_queueOk n ok)

theorem halt_noticesOk {s : State} (ok : NoticesOk s) : NoticesOk s.halt := by
  obtain ⟨ns, r, -, eq⟩ := halt_cases s
  rw [eq]
  refine noticesFiring.abortCalibration _ _ fun p => ?_
  change Client.QueueOk (each s.ports _)[p]
  rw [each_get]
  exact storeAll_queueOk ns (ok p)

theorem deviceReset_noticesOk (s : State) : NoticesOk s.deviceReset := by
  intro p
  change Client.QueueOk (each s.ports _)[p]
  rw [each_get]
  exact ⟨Nat.zero_le _, by simp [Client.reset]⟩

theorem noticesInvariant : Invariant NoticesOk where
  quiet h := h.notices
  fireCheck _ _ := noticesFiring.firing.fireCheck _ _ _
  triggerAll _ _ := noticesFiring.firing.triggerAll _ _ _
  finishRun _ _ _ ok := ok
  load _ ok := ok
  halt _ := halt_noticesOk
  resume _ ok := ok
  take _ _ ok := ok
  join _ _ _ ok := ok
  giveUp _ _ ok := grant_noticesOk _ (noticesFiring.cascade _ _ _ _ ok)
  shorten _ _ ok := ok
  place _ _ _ _ _ ok := by rw [placeEntry_frame]; exact ok
  remove _ ok := ok
  startRun _ _ _ _ ok := ok
  deviceReset _ := deviceReset_noticesOk _
  retainedReset _ := deviceReset_noticesOk _

/-- Settles O54, by the induction over a step. -/
theorem noticesStay : Obligations.NoticesStay := fun _ _ => noticesInvariant.step

/-! ### The log -/

theorem logOk_of_kept {s t : State} (h : s.KeptByFiring t) (ok : LogOk s) : LogOk t :=
  logOk_of_same ok h.log h.nextSeq fun p => (h.ports p).cursor

theorem grant_logOk {s : State} (r : Resource) (ok : LogOk s) : LogOk (s.grant r) := by
  obtain eq | ⟨w, eq⟩ := grant_cases s r <;> rw [eq]
  · exact ok
  · exact (State.Quiet.offer _ _ _).log ok

theorem storeAll_cursor (ns : List Notice) : ∀ c : Client, (ns.foldl Client.store c).cursor = c.cursor := by
  induction ns with
  | nil => exact fun _ => rfl
  | cons n ns ih => exact fun c => (ih _).trans (Client.store_cursor c n)

theorem halt_logOk {s : State} (ok : LogOk s) : LogOk s.halt := by
  obtain ⟨ns, r, -, eq⟩ := halt_cases s
  rw [eq]
  refine logOk_of_kept (State.abortCalibration_kept _ _) (logOk_of_same ok rfl rfl fun p => ?_)
  dsimp only
  rw [each_get, storeAll_cursor]

theorem deviceReset_logOk (s : State) : LogOk s.deviceReset := by
  refine ⟨Nat.zero_le _, fun k hk => absurd hk (Nat.not_lt_zero k), fun p => ?_⟩
  have cursor : s.deviceReset.ports[p].cursor = 0 := by
    unfold State.deviceReset
    rw [each_get]
    rfl
  rw [cursor]
  simp [State.deviceReset, State.reset]

theorem logInvariant : Invariant LogOk where
  quiet h := h.log
  fireCheck _ _ := logOk_of_kept (State.fireCheck_kept _ _ _)
  triggerAll _ _ := logOk_of_kept (keptByFiring_closed.firing.triggerAll _ _ _)
  finishRun _ _ _ ok := ok
  load _ ok := ok
  halt _ := halt_logOk
  resume _ ok := ok
  take _ _ ok := ok
  join _ _ _ ok := ok
  giveUp _ _ ok := grant_logOk _ (logOk_of_kept (keptByFiring_closed.cascade _ _ _ _) ok)
  shorten _ _ ok := ok
  place _ _ _ _ _ := logOk_of_kept (placeEntry_kept _ _ _)
  remove _ ok := ok
  startRun _ _ _ _ ok := ok
  deviceReset _ := deviceReset_logOk _
  retainedReset _ := deviceReset_logOk _

/-- Settles O56, by the induction over a step. -/
theorem logStays : Obligations.LogStays := fun _ _ => logInvariant.step

/-! ### Trim, slew and reference -/

theorem disciplineOk_of_kept {s t : State} (h : s.KeptByFiring t) (ok : DisciplineOk s) : DisciplineOk t := by
  refine disciplineOk_of_same ok h.trim h.windowTrim h.slew h.timebase ?_ ?_ ?_ ?_ ?_
  all_goals rw [h.rdu]

theorem grant_disciplineOk {s : State} (r : Resource) (ok : DisciplineOk s) : DisciplineOk (s.grant r) := by
  obtain eq | ⟨w, eq⟩ := grant_cases s r <;> rw [eq] <;> exact ok

/-- A device reset keeps the trim setting and the window trim, and sets the rest to values in order (R22, R39). -/
theorem deviceReset_disciplineOk {s : State} (trim : -1024 ≤ s.trim ∧ s.trim ≤ 1023)
    (window : -1024 ≤ s.windowTrim ∧ s.windowTrim ≤ 1023) : DisciplineOk s.deviceReset := by
  refine ⟨trim, window, ?_, fun moving => absurd rfl moving, fun on => absurd rfl on, ?_, ?_, ?_, ?_⟩ <;>
    simp [State.deviceReset, State.reset, Rdu.reset]

theorem disciplineInvariant : Invariant DisciplineOk where
  quiet h := h.discipline
  fireCheck _ _ := disciplineOk_of_kept (State.fireCheck_kept _ _ _)
  triggerAll _ _ := disciplineOk_of_kept (keptByFiring_closed.firing.triggerAll _ _ _)
  finishRun _ _ _ ok := ok
  load := held_disciplineOk
  halt _ := halt_disciplineOk
  resume := resume_disciplineOk
  take _ _ ok := ok
  join _ _ _ ok := ok
  giveUp _ _ ok := grant_disciplineOk _ (disciplineOk_of_kept (keptByFiring_closed.cascade _ _ _ _) ok)
  shorten _ _ ok := ok
  place _ _ _ _ _ := disciplineOk_of_kept (placeEntry_kept _ _ _)
  remove _ ok := ok
  startRun _ _ _ _ ok := ok
  deviceReset := fun ⟨trim, window, _⟩ => deviceReset_disciplineOk trim window
  retainedReset _ := deviceReset_disciplineOk (by simp [State.clearRetained]) (by simp [State.clearRetained])

/-- Settles O57, by the induction over a step. -/
theorem disciplineStays : Obligations.DisciplineStays := fun _ _ => disciplineInvariant.step

/-! ### The claims -/

/-- One claim record in order (R40, R46). -/
def ClaimRecord.Ok (c : ClaimRecord) : Prop :=
  c.waiters.length ≤ 3 ∧ c.waiters.Nodup ∧ (∀ p, c.holder = some p → p ∉ c.waiters) ∧ (c.holder = none → c.waiters = [])

theorem claimsOk_iff (s : State) : ClaimsOk s ↔ ∀ r : Resource, s.claims[r].Ok := Iff.rfl

theorem claimsOk_of_same {s t : State} (ok : ClaimsOk s) (same : t.claims = s.claims) : ClaimsOk t := by
  intro r
  rw [same]
  exact ok r

theorem updClaim_claimsOk {s : State} {r : Resource} {f : ClaimRecord → ClaimRecord} (ok : ClaimsOk s)
    (change : (f s.claims[r]).Ok) : ClaimsOk (s.updClaim r f) := by
  intro q
  change ClaimRecord.Ok (upd s.claims r f)[q]
  rw [upd_get]
  split_ifs with same
  · exact change
  · exact ok q

theorem passedOn_ok {c : ClaimRecord} (ok : c.Ok) : c.passedOn.Ok := by
  obtain ⟨short, distinct, -, -⟩ := ok
  unfold ClaimRecord.passedOn
  split
  · exact ⟨Nat.zero_le _, .nil, by simp, fun _ => rfl⟩
  next w rest eq =>
    rw [eq] at short distinct
    obtain ⟨notBehind, distinct⟩ := List.nodup_cons.mp distinct
    refine ⟨?_, distinct, fun p held => ?_, by simp⟩
    · rw [List.length_cons] at short
      exact Nat.le_of_succ_le short
    · cases held
      exact notBehind

/-- Four distinct ports are all there are, so with the holder and the newcomer apart three waiters at most stand in a list. -/
theorem joined_ok {c : ClaimRecord} {h p : Port} (ok : c.Ok) (held : c.holder = some h) (other : h ≠ p)
    (absent : p ∉ c.waiters) : ClaimRecord.Ok { c with waiters := c.waiters ++ [p] } := by
  obtain ⟨-, distinct, apart, -⟩ := ok
  have holderApart := apart h held
  have joined : (c.waiters ++ [p]).Nodup := by
    rw [List.nodup_append]
    exact ⟨distinct, List.nodup_singleton p, fun a ha b hb => by
      rw [List.mem_singleton.mp hb]
      exact fun same => absent (same ▸ ha)⟩
  have all : (h :: (c.waiters ++ [p])).Nodup := by
    refine List.nodup_cons.mpr ⟨?_, joined⟩
    simp [holderApart, other]
  refine ⟨?_, joined, fun q held' => ?_, by simp [held]⟩
  · have bound := all.length_le_card
    simp only [Fintype.card_fin, List.length_cons] at bound
    exact Nat.le_of_succ_le_succ bound
  · rw [held] at held'
    cases held'
    simp [holderApart, other]

theorem shortened_ok {c d : ClaimRecord} (ok : c.Ok) (holder : d.holder = c.holder)
    (waiters : d.waiters.Sublist c.waiters) : d.Ok := by
  obtain ⟨short, distinct, apart, free⟩ := ok
  refine ⟨waiters.length_le.trans short, distinct.sublist waiters, fun p held there => ?_, fun none => ?_⟩
  · exact apart p (holder ▸ held) (waiters.subset there)
  · have empty := free (holder ▸ none)
    rw [empty] at waiters
    exact List.sublist_nil.mp waiters

theorem grant_claimsOk {s : State} (r : Resource) (ok : ClaimsOk s) : ClaimsOk (s.grant r) := by
  have passed := updClaim_claimsOk ok (passedOn_ok (ok r))
  obtain eq | ⟨w, eq⟩ := grant_cases s r <;> rw [eq] <;> exact passed

theorem deviceReset_claimsOk (s : State) : ClaimsOk s.deviceReset := by
  intro r
  have reset : s.deviceReset.claims[r] = ClaimRecord.reset := Vector.getElem_replicate _
  rw [reset]
  exact ⟨Nat.zero_le _, .nil, by rintro p ⟨⟩, fun _ => rfl⟩

theorem halt_claims (s : State) : s.halt.claims = s.claims := by
  obtain ⟨ns, r, -, eq⟩ := halt_cases s
  rw [eq]
  exact (State.abortCalibration_kept _ _).claims

theorem claimsInvariant : Invariant ClaimsOk where
  quiet h ok := claimsOk_of_same ok h.claims
  fireCheck _ _ ok := claimsOk_of_same ok (State.fireCheck_kept _ _ _).claims
  triggerAll _ _ ok := claimsOk_of_same ok (keptByFiring_closed.firing.triggerAll _ _ _).claims
  finishRun _ _ _ ok := ok
  load _ ok := ok
  halt _ ok := claimsOk_of_same ok (halt_claims _)
  resume _ ok := ok
  take {s r} p free ok := by
    obtain ⟨-, -, -, noneWaits⟩ := ok r
    refine updClaim_claimsOk ok ?_
    rw [ClaimRecord.Ok, noneWaits free]
    exact ⟨Nat.zero_le _, .nil, by simp, fun _ => rfl⟩
  join held other absent ok := updClaim_claimsOk ok (joined_ok (ok _) held other absent)
  giveUp _ _ ok := grant_claimsOk _ (claimsOk_of_same ok (keptByFiring_closed.cascade _ _ _ _).claims)
  shorten claims h ok r := shortened_ok (ok r) (h r).1 (h r).2
  place _ _ _ _ _ ok := claimsOk_of_same ok (placeEntry_kept _ _ _).claims
  remove _ ok := ok
  startRun _ _ _ _ ok := ok
  deviceReset _ := deviceReset_claimsOk _
  retainedReset _ := deviceReset_claimsOk _

/-- Settles O55, by the induction over a step. -/
theorem claimsStay : Obligations.ClaimsStay := fun _ _ => claimsInvariant.step

end Sys2Proof.Machine
end

section
/-! SUPPORT. The table: what a removal, a release and an occurrence make of its slots, generations and due order
(R57 to R65, R82, R83). -/

namespace Sys2Proof.Machine

open Sys2Proof.Safety

/-! ### Slots -/

/-- Every entry of the one table comes from the entry of the same slot of the other, with the same owner and the same job. -/
def State.Descends (s t : State) : Prop :=
  ∀ (k : Slot) (e : Entry), t.slots[k] = some e →
    ∃ old, s.slots[k] = some old ∧ old.owner = e.owner ∧ old.job = e.job

namespace State.Descends

theorem refl (s : State) : s.Descends s := fun _ e there => ⟨e, there, rfl, rfl⟩

theorem trans {s t u : State} (h : s.Descends t) (k : t.Descends u) : s.Descends u := by
  intro j e there
  obtain ⟨mid, thereMid, owner, job⟩ := k j e there
  obtain ⟨old, thereOld, owner', job'⟩ := h j mid thereMid
  exact ⟨old, thereOld, owner'.trans owner, job'.trans job⟩

theorem of_slots {s t : State} (same : t.slots = s.slots) : s.Descends t := by
  intro k e there
  rw [same] at there
  exact ⟨e, there, rfl, rfl⟩

/-- One slot emptied, or its entry replaced by one with the same owner and job. -/
theorem of_slot {s t : State} {k : Slot} {x : Option Entry} (changed : t.slots = upd s.slots k fun _ => x)
    (same : ∀ e, x = some e → ∃ old, s.slots[k] = some old ∧ old.owner = e.owner ∧ old.job = e.job) :
    s.Descends t := by
  intro j e there
  rw [changed, upd_get] at there
  split_ifs at there with here
  · subst here
    exact same e there
  · exact ⟨e, there, rfl, rfl⟩

end State.Descends

variable (s : State)

theorem abortCalibration_table (r : AbortReason) :
    (s.abortCalibration r).slots = s.slots ∧ (s.abortCalibration r).gens = s.gens
      ∧ (s.abortCalibration r).dueOrder = s.dueOrder := by
  unfold State.abortCalibration
  split
  · exact ⟨rfl, rfl, rfl⟩
  · dsimp only
    split_ifs <;> exact ⟨rfl, rfl, rfl⟩

theorem abortOn_table (l : Line) (r : AbortReason) :
    (s.abortOn l r).slots = s.slots ∧ (s.abortOn l r).gens = s.gens ∧ (s.abortOn l r).dueOrder = s.dueOrder := by
  unfold State.abortOn
  split_ifs
  · exact abortCalibration_table s r
  · exact ⟨rfl, rfl, rfl⟩

/-- A delivered action leaves the table. -/
theorem deliver_table (l : Line) (a : LineAction) :
    (s.deliver l a).slots = s.slots ∧ (s.deliver l a).gens = s.gens ∧ (s.deliver l a).dueOrder = s.dueOrder :=
  abortOn_table s l .action

/-- Steps 1 and 2 of an occurrence leave the table. -/
theorem told_table (e : Entry) (h : Handle) (v : Verdict) (st : Settlement) (now : TimeValue) :
    ((s.deliverOccurrence v e.job).noticeOccurrence e h v st now).slots = s.slots
      ∧ ((s.deliverOccurrence v e.job).noticeOccurrence e h v st now).gens = s.gens
      ∧ ((s.deliverOccurrence v e.job).noticeOccurrence e h v st now).dueOrder = s.dueOrder := by
  have delivered : (s.deliverOccurrence v e.job).slots = s.slots ∧ (s.deliverOccurrence v e.job).gens = s.gens
      ∧ (s.deliverOccurrence v e.job).dueOrder = s.dueOrder := by
    unfold State.deliverOccurrence
    split
    · exact ⟨rfl, rfl, rfl⟩
    · exact ⟨rfl, rfl, rfl⟩
    · exact deliver_table s _ _
  unfold State.noticeOccurrence
  split_ifs <;> exact delivered

theorem pendingIn_iff {k : Slot} {e : Entry} {d : TimeValue} :
    s.pendingIn k = some (e, d) ↔ s.slots[k] = some e ∧ e.due = some d := by
  unfold State.pendingIn
  cases s.slots[k] with
  | none => simp
  | some x => cases due : x.due <;> simp <;> grind

/-- All an occurrence can do: take a slot without a PENDING entry off the due order, or settle the entry after its action and
its notice. -/
theorem occurrence_cases (wrapped : Bool) (now : TimeValue) (k : Slot) :
    (s.pendingIn k = none ∧ s.occurrence wrapped now k = { s with dueOrder := s.dueOrder.filter fun j => j != k })
    ∨ ∃ (e : Entry) (d : TimeValue) (u : State), s.slots[k] = some e ∧ e.due = some d ∧ s.KeptByFiring u
        ∧ (u.slots = s.slots ∧ u.gens = s.gens ∧ u.dueOrder = s.dueOrder)
        ∧ s.occurrence wrapped now k
          = u.settleEntry k e (settleSeries wrapped e d (lateness wrapped d now)).next := by
  unfold State.occurrence
  split
  next absent => exact .inl ⟨absent, rfl⟩
  next e d present =>
    obtain ⟨there, due⟩ := (pendingIn_iff s).mp present
    refine .inr ⟨e, d, _, there, due, ?_, told_table s e _ _ _ _, rfl⟩
    exact (State.deliverOccurrence_kept s _ _).trans (State.noticeOccurrence_kept _ e _ _ _ _)

/-- An entry settled is re-inserted, back to ARMED or gone: its slot holds an entry of the same owner and job, or none. -/
theorem settleEntry_descends {k : Slot} {e : Entry} (next : Option (TimeValue × Count)) (there : s.slots[k] = some e) :
    s.Descends (s.settleEntry k e next) := by
  unfold State.settleEntry State.finishEntry
  split
  · exact .of_slot (State.makePending_slots _ _ _ _) fun x eq => by cases eq; exact ⟨e, there, rfl, rfl⟩
  · split
    · exact .of_slot (State.makeArmed_slots _ _ _ _) fun x eq => by cases eq; exact ⟨e, there, rfl, rfl⟩
    · exact .of_slot (State.removeEntry_slots _ _) fun x eq => by cases eq

theorem occurrence_descends (wrapped : Bool) (now : TimeValue) (k : Slot) :
    s.Descends (s.occurrence wrapped now k) := by
  obtain ⟨-, eq⟩ | ⟨e, d, u, there, -, -, ⟨slots, -, -⟩, eq⟩ := occurrence_cases s wrapped now k <;> rw [eq]
  · exact .of_slots rfl
  · exact .trans (.of_slots slots) (settleEntry_descends u _ (slots ▸ there))

theorem fireCheck_descends (wrapped : Bool) (now : TimeValue) : s.Descends (s.fireCheck wrapped now) :=
  fireCheck_keeps (P := s.Descends) (fun u w n k ok => ok.trans (occurrence_descends u w n k)) wrapped now (.refl s)

theorem armedOn_iff {i : Input} {k : Slot} {e : Entry} {offset : BitVec 24} :
    s.armedOn i k = some (e, offset)
      ↔ s.slots[k] = some e ∧ e.due = none ∧ ∃ rearm, e.form = .armed i offset rearm := by
  unfold State.armedOn
  cases s.slots[k] with
  | none => simp
  | some x =>
    dsimp only
    split
    next trigger offset' rearm due form =>
      split_ifs with same
      · subst same
        constructor
        · rintro ⟨⟩
          exact ⟨rfl, due, rearm, form⟩
        · rintro ⟨⟨⟩, -, rearm', form'⟩
          rw [form] at form'
          cases form'
          rfl
      · refine ⟨by rintro ⟨⟩, ?_⟩
        rintro ⟨⟨⟩, -, rearm', form'⟩
        rw [form] at form'
        cases form'
        exact absurd rfl same
    next other =>
      simp only [reduceCtorEq, Option.some.injEq, false_iff, not_and, not_exists]
      rintro rfl due rearm form
      exact other _ _ _ due form

theorem triggerSlot_descends (i : Input) (time : TimeValue) (k : Slot) : s.Descends (s.triggerSlot i time k) := by
  unfold State.triggerSlot
  split
  next e offset on =>
    obtain ⟨there, -, -⟩ := (armedOn_iff s).mp on
    exact .of_slot (State.makePending_slots _ _ _ _) fun x eq => by cases eq; exact ⟨e, there, rfl, rfl⟩
  next => exact .refl s

theorem triggerAll_descends (i : Input) (time : TimeValue) : s.Descends (s.triggerAll i time) :=
  Invariant.foldl (P := s.Descends) (fun u k ok => ok.trans (triggerSlot_descends u i time k)) _ s (.refl s)

/-! ### Removals -/

theorem mem_slotsWhere {f : Entry → Bool} {k : Slot} : k ∈ s.slotsWhere f ↔ s.slots[k].any f = true := by
  unfold State.slotsWhere
  simp only [List.mem_filter, List.mem_finRange, true_and]
  cases s.slots[k] <;> rfl

theorem nodup_slotsWhere (f : Entry → Bool) : (s.slotsWhere f).Nodup := (List.nodup_finRange 64).filter _

/-- Removing the entries of distinct slots empties those slots, increments their generations, takes them off the due order,
and leaves everything else. -/
theorem removeEntries_eq (ks : List Slot) (distinct : ks.Nodup) : ∀ s : State,
    s.removeEntries ks = { s with
      slots := each s.slots fun k x => if k ∈ ks then none else x
      gens := each s.gens fun k g => if k ∈ ks then g + 1 else g
      dueOrder := s.dueOrder.filter fun k => !decide (k ∈ ks) } := by
  induction ks with
  | nil =>
    intro s
    have slots : each s.slots (fun _ x => x) = s.slots := table_ext fun i => each_get _ _ i
    have gens : each s.gens (fun _ x => x) = s.gens := table_ext fun i => each_get _ _ i
    simp [State.removeEntries, slots, gens]
  | cons k ks ih =>
    intro s
    obtain ⟨new, distinct⟩ := List.nodup_cons.mp distinct
    have slots : (each (upd s.slots k fun _ => none) fun j x => if j ∈ ks then none else x)
        = each s.slots fun j x => if j ∈ k :: ks then none else x :=
      table_ext fun j => by
        rw [each_get, each_get, upd_get]
        by_cases same : k = j
        · simp [same]
        · simp [same, Ne.symm same]
    have gens : (each (upd s.gens k fun g => g + 1) fun j g => if j ∈ ks then g + 1 else g)
        = each s.gens fun j g => if j ∈ k :: ks then g + 1 else g :=
      table_ext fun j => by
        rw [each_get, each_get, upd_get]
        by_cases same : k = j
        · subst same
          simp [new]
        · simp [same, Ne.symm same]
    have order : (s.dueOrder.filter fun j => j != k).filter (fun j => !decide (j ∈ ks))
        = s.dueOrder.filter fun j => !decide (j ∈ k :: ks) := by
      rw [List.filter_filter]
      congr 1
      funext j
      by_cases same : j = k <;> simp [same]
    have tail := ih distinct (s.removeEntry k)
    simp only [State.removeEntries] at tail ⊢
    rw [List.foldl_cons, tail]
    simp only [State.removeEntry_slots, State.removeEntry_gens, State.removeEntry_dueOrder, slots, gens, order]
    rfl

/-- Removing every entry that satisfies f (R82, R83). -/
theorem removeWhere_eq (f : Entry → Bool) :
    s.removeWhere f = { s with
      slots := each s.slots fun _ x => if x.any f then none else x
      gens := each s.gens fun k g => if s.slots[k].any f then g + 1 else g
      dueOrder := s.dueOrder.filter fun k => !s.slots[k].any f } := by
  have gone (k : Slot) : (k ∈ s.slotsWhere f) = (s.slots[k].any f = true) := propext (mem_slotsWhere s)
  have slots : (each s.slots fun k x => if k ∈ s.slotsWhere f then none else x)
      = each s.slots fun _ x => if x.any f then none else x :=
    table_ext fun k => by rw [each_get, each_get]; simp only [gone]
  rw [State.removeWhere, removeEntries_eq _ (nodup_slotsWhere s f), slots]
  simp only [gone, Bool.decide_eq_true]

theorem removeWhere_slots (f : Entry → Bool) (k : Slot) :
    (s.removeWhere f).slots[k] = if s.slots[k].any f then none else s.slots[k] := by
  rw [removeWhere_eq]
  exact each_get _ _ k

theorem removeWhere_descends (f : Entry → Bool) : s.Descends (s.removeWhere f) := by
  intro k e there
  rw [removeWhere_slots] at there
  split_ifs at there
  exact ⟨e, there, rfl, rfl⟩

end Sys2Proof.Machine
end

section
/-! SUPPORT. Entries and runs stay with the holders of their lines and inputs, through releases, grants, firing and resets
(R48 to R53, R107, R109, R143 to R150). -/

namespace Sys2Proof.Machine

open Sys2Proof.Safety

variable {s t : State}

/-! ### The entries -/

/-- The owners still hold where entries only leave and the holders stay. -/
theorem ownersHold_of_descends (ok : OwnersHold s) (table : s.Descends t)
    (holders : ∀ r : Resource, t.claims[r].holder = s.claims[r].holder) : OwnersHold t := by
  intro k e l a there job
  obtain ⟨old, thereOld, owner, job'⟩ := table k e there
  rw [holders, ← owner]
  exact ok k old l a thereOld (job'.trans job)

theorem ownersHold_of_same (ok : OwnersHold s) (slots : t.slots = s.slots) (claims : t.claims = s.claims) :
    OwnersHold t :=
  ownersHold_of_descends ok (.of_slots slots) fun r => by rw [claims]

/-- The owners still hold where one resource changes hands on which no entry is left. -/
theorem ownersHold_of_free {r : Resource} {f : ClaimRecord → ClaimRecord} (ok : OwnersHold s)
    (unused : ∀ (k : Slot) (e : Entry) (l : Line) (a : LineAction), s.slots[k] = some e → e.job = .act l a →
      lineResource l ≠ r) : OwnersHold (s.updClaim r f) := by
  intro k e l a there job
  rw [State.updClaim_claims, upd_other _ _ (unused k e l a there job).symm]
  exact ok k e l a there job

/-! ### The run -/

/-- A line is CALIBRATING only while the engine runs on it (R107). -/
def State.LinesRun (s : State) : Prop :=
  ∀ l : Line, s.lines[l].activity = .calibrating → ∃ c, s.calRun = some c ∧ c.line = l

theorem calibrationOk_of_quiet (h : s.Quiet t) (ok : CalibrationOk s) : CalibrationOk t := by
  obtain ⟨placed, lines⟩ := ok
  refine ⟨fun c run => ?_, fun l on => ?_⟩
  · have place := h.run
    rw [run, Option.map_some] at place
    obtain ⟨d, runs, same⟩ := Option.map_eq_some_iff.mp place.symm
    simp only [CalRun.place, Prod.mk.injEq] at same
    obtain ⟨requester, line, input⟩ := same
    obtain ⟨running, holdsLine, holdsInput, on⟩ := placed d runs
    simp only [← requester, ← line, ← input, h.timebase, h.claims]
    exact ⟨running, holdsLine, holdsInput, (h.calibrating _).mpr on⟩
  · obtain ⟨d, runs, line⟩ := lines l ((h.calibrating l).mp on)
    have place := h.run
    rw [runs, Option.map_some] at place
    obtain ⟨c, run, same⟩ := Option.map_eq_some_iff.mp place
    simp only [CalRun.place, Prod.mk.injEq] at same
    exact ⟨c, run, same.2.1.trans line⟩

theorem calibrationOk_of_table {slots : Vector (Option Entry) 64} {gens : Vector Byte 64} {order : List Slot}
    (ok : CalibrationOk s) : CalibrationOk { s with slots := slots, gens := gens, dueOrder := order } := ok

/-- With the engine idle and no line CALIBRATING there is nothing to hold. -/
theorem calibrationOk_of_idle (idle : s.calRun = none) (lines : s.LinesRun) : CalibrationOk s :=
  ⟨fun c run => absurd (idle.symm.trans run) (by simp), lines⟩

theorem finishRun_linesRun {c : CalRun} (d : Phase) (r : CalResult) (run : s.calRun = some c) (lines : s.LinesRun) :
    (s.finishRun c d r).LinesRun := by
  intro l on
  rw [State.finishRun_lines, upd_get] at on
  split_ifs at on with same
  obtain ⟨d, runs, line⟩ := lines l on
  rw [run] at runs
  cases runs
  exact absurd line same

/-- A run that ends leaves the engine idle and no line CALIBRATING. -/
theorem finishRun_calibrationOk {c : CalRun} (d : Phase) (r : CalResult) (run : s.calRun = some c) (lines : s.LinesRun) :
    CalibrationOk (s.finishRun c d r) :=
  calibrationOk_of_idle rfl (finishRun_linesRun d r run lines)

theorem abortCalibration_calRun (s : State) (reason : AbortReason) : (s.abortCalibration reason).calRun = none := by
  unfold State.abortCalibration
  split
  next idle => exact idle
  next =>
    dsimp only
    split_ifs <;> rfl

theorem abortCalibration_calibrationOk (reason : AbortReason) (lines : s.LinesRun) :
    CalibrationOk (s.abortCalibration reason) := by
  unfold State.abortCalibration
  split
  next idle => exact calibrationOk_of_idle idle lines
  next c run =>
    have finished := finishRun_calibrationOk c.savedDelay (c.record .aborted (some reason)) run lines
    dsimp only
    split_ifs
    · exact finished
    · exact calibrationOk_of_quiet (.offer _ _ _) finished

theorem calibratesLine_iff {l : Line} : s.calibratesLine l = true ↔ ∃ c, s.calRun = some c ∧ c.line = l := by
  unfold State.calibratesLine
  cases s.calRun <;> simp

theorem diverted_iff {i : Input} : s.diverted i = true ↔ ∃ c, s.calRun = some c ∧ c.input = i := by
  unfold State.diverted
  cases s.calRun <;> simp

theorem abortOn_calibrationOk (l : Line) (reason : AbortReason) (ok : CalibrationOk s) :
    CalibrationOk (s.abortOn l reason) ∧ (s.abortOn l reason).calibratesLine l = false := by
  unfold State.abortOn
  split_ifs with on
  · refine ⟨abortCalibration_calibrationOk reason ok.2, ?_⟩
    rw [State.calibratesLine, abortCalibration_calRun]
  · exact ⟨ok, by simpa using on⟩

theorem cancelTimer_quiet (s : State) (l : Line) : s.Quiet (s.cancelTimer l) := by
  refine State.Quiet.trans (t := s.updLine l fun ln =>
    { ln with activity := match ln.activity with
                          | .calibrating => .calibrating
                          | _ => .steady }) (.updLine s ?_) (.of_background rfl)
  split <;> simp_all

/-- A line on which the engine does not run may change in any way that does not make it CALIBRATING. -/
theorem updLine_calibrationOk {l : Line} {f : LineUnit → LineUnit} (ok : CalibrationOk s)
    (off : s.calibratesLine l = false) (not : (f s.lines[l]).activity ≠ .calibrating) :
    CalibrationOk (s.updLine l f) := by
  obtain ⟨placed, lines⟩ := ok
  refine ⟨fun c run => ?_, fun k on => ?_⟩
  · obtain ⟨running, holdsLine, holdsInput, on⟩ := placed c run
    have other : l ≠ c.line := fun same => by
      rw [calibratesLine_iff (s := s).mpr ⟨c, run, same.symm⟩] at off
      cases off
    refine ⟨running, holdsLine, holdsInput, ?_⟩
    rwa [State.updLine_lines, upd_other _ _ other]
  · rw [State.updLine_lines, upd_get] at on
    split_ifs at on
    · exact absurd on not
    · exact lines k on

theorem act_activity (ln : LineUnit) (a : LineAction) : (ln.act a).activity ≠ .calibrating := by
  cases a <;> simp [LineUnit.act]

theorem deliver_calibrationOk (l : Line) (a : LineAction) (ok : CalibrationOk s) : CalibrationOk (s.deliver l a) := by
  obtain ⟨aborted, off⟩ := abortOn_calibrationOk l .action ok
  exact updLine_calibrationOk (calibrationOk_of_quiet (cancelTimer_quiet _ l) aborted) off (act_activity _ a)

theorem calibrationFiring : FiringClosed fun s t => CalibrationOk s → CalibrationOk t where
  refl _ := id
  trans h k := k ∘ h
  offer s p n := calibrationOk_of_quiet (.offer s p n)
  deliver _ l a := deliver_calibrationOk l a
  table _ _ _ _ := id

/-- The run keeps its holders where the holders stay. -/
theorem calibrationOk_of_holders {claims : Vector ClaimRecord 17} (ok : CalibrationOk s)
    (holders : ∀ r : Resource, (∃ p, s.claims[r].holder = some p) → claims[r].holder = s.claims[r].holder) :
    CalibrationOk { s with claims := claims } := by
  obtain ⟨placed, lines⟩ := ok
  refine ⟨fun c run => ?_, lines⟩
  obtain ⟨running, holdsLine, holdsInput, on⟩ := placed c run
  exact ⟨running, (holders _ ⟨_, holdsLine⟩).trans holdsLine, (holders _ ⟨_, holdsInput⟩).trans holdsInput, on⟩

/-! ### A release -/

/-- After its release cascade a resource is the line of no entry, and neither the line nor the loop input of a run. -/
structure State.Unused (s : State) (r : Resource) : Prop where
  entries : ∀ (k : Slot) (e : Entry) (l : Line) (a : LineAction), s.slots[k] = some e → e.job = .act l a →
    lineResource l ≠ r
  line : ∀ c, s.calRun = some c → lineResource c.line ≠ r
  input : ∀ c, s.calRun = some c → inputResource c.input ≠ r

theorem lineResource_ne_of_le {l : Line} {r : Resource} (h : 8 ≤ r.val) : lineResource l ≠ r := by
  rintro rfl
  simp only [lineResource] at h
  omega

theorem inputResource_ne_of_lt {i : Input} {r : Resource} (h : r.val < 8) : inputResource i ≠ r := by
  rintro rfl
  simp only [inputResource] at h
  omega

theorem isOn_iff {e : Entry} {p : Port} {l : Line} : e.isOn p l = true ↔ e.owner = p ∧ ∃ a, e.job = .act l a := by
  unfold Entry.isOn
  cases e.job <;> simp

theorem cascadeLine_slots (s : State) (byReset : Bool) (p : Port) (l : Line) (k : Slot) :
    (s.cascadeLine byReset p l).slots[k] = if s.slots[k].any fun e => e.isOn p l then none else s.slots[k] := by
  obtain ⟨slots, -, -⟩ := abortOn_table s l (releaseReason byReset p s)
  rw [State.cascadeLine, removeWhere_slots]
  simp only [State.updLine_slots, State.cancelTimer_slots, slots]

theorem cascadeLine_unused (byReset : Bool) {p : Port} {l : Line} (owners : OwnersHold s) (calibration : CalibrationOk s)
    (mine : s.claims[lineResource l].holder = some p) :
    CalibrationOk (s.cascadeLine byReset p l) ∧ (s.cascadeLine byReset p l).Unused (lineResource l) := by
  obtain ⟨aborted, off⟩ := abortOn_calibrationOk l (releaseReason byReset p s) calibration
  have rested := updLine_calibrationOk (f := fun ln => { ln with level := ln.idle, activity := .steady })
    (calibrationOk_of_quiet (cancelTimer_quiet _ l) aborted) off (by simp)
  have same : (s.cascadeLine byReset p l).calRun = (s.abortOn l (releaseReason byReset p s)).calRun := by
    rw [State.cascadeLine, removeWhere_eq]
    rfl
  refine ⟨?_, fun k e m a there job onLine => ?_, fun c run onLine => ?_, fun c _ => ?_⟩
  · rw [State.cascadeLine, removeWhere_eq]
    exact calibrationOk_of_table rested
  · rw [cascadeLine_slots] at there
    split_ifs at there with gone
    have held := owners k e m a there job
    obtain rfl := (lineResource_inj m l).mp onLine
    rw [mine] at held
    have on : e.isOn p m = true := isOn_iff.mpr ⟨(Option.some.inj held).symm, a, job⟩
    rw [there] at gone
    exact gone on
  · rw [same] at run
    rw [calibratesLine_iff.mpr ⟨c, run, (lineResource_inj _ _).mp onLine⟩] at off
    cases off
  · exact (lineResource_ne_inputResource l c.input).symm

theorem cascadeInput_unused (byReset : Bool) (p : Port) (i : Input) (calibration : CalibrationOk s) :
    CalibrationOk (s.cascadeInput byReset p i) ∧ (s.cascadeInput byReset p i).Unused (inputResource i) := by
  have far : 8 ≤ (inputResource i).val := Nat.le_add_left 8 i.val
  unfold State.cascadeInput
  split_ifs with on
  · have idle := abortCalibration_calRun s (releaseReason byReset p s)
    refine ⟨abortCalibration_calibrationOk _ calibration.2, fun _ _ _ _ _ _ => lineResource_ne_of_le far,
      fun _ _ => lineResource_ne_of_le far, fun c run => ?_⟩
    rw [idle] at run
    cases run
  · exact ⟨calibration, fun _ _ _ _ _ _ => lineResource_ne_of_le far, fun _ _ => lineResource_ne_of_le far,
      fun c run same => on (diverted_iff.mpr ⟨c, run, (inputResource_inj _ _).mp same⟩)⟩

theorem cascade_unused (byReset : Bool) {p : Port} {r : Resource} (owners : OwnersHold s) (calibration : CalibrationOk s)
    (mine : s.claims[r].holder = some p) :
    CalibrationOk (s.cascade byReset p r) ∧ (s.cascade byReset p r).Unused r := by
  unfold State.cascade
  split_ifs with line input
  · exact cascadeLine_unused byReset (l := ⟨r.val, line⟩) owners calibration mine
  · have same : inputResource ⟨r.val - 8, by omega⟩ = r := Fin.ext (Nat.sub_add_cancel (Nat.le_of_not_lt line))
    have result := cascadeInput_unused byReset p ⟨r.val - 8, by omega⟩ calibration
    rw [same] at result
    exact result
  · refine ⟨calibration, fun _ _ _ _ _ _ => lineResource_ne_of_le (by omega), fun _ _ => lineResource_ne_of_le (by omega),
      fun c _ same => ?_⟩
    have value := congrArg Fin.val same
    simp only [inputResource] at value
    omega

theorem cascade_descends (s : State) (byReset : Bool) (p : Port) (r : Resource) :
    s.Descends (s.cascade byReset p r) := by
  unfold State.cascade
  split_ifs with line
  · intro k e there
    rw [cascadeLine_slots] at there
    split_ifs at there
    exact ⟨e, there, rfl, rfl⟩
  · unfold State.cascadeInput
    split_ifs
    · exact .of_slots (abortCalibration_table s _).1
    · exact .refl s
  · exact .refl s

/-- An unused resource may change hands. -/
theorem updClaim_holders {r : Resource} {f : ClaimRecord → ClaimRecord} (unused : s.Unused r)
    (ok : OwnersHold s ∧ CalibrationOk s) : OwnersHold (s.updClaim r f) ∧ CalibrationOk (s.updClaim r f) := by
  obtain ⟨owners, placed, lines⟩ := ok
  refine ⟨ownersHold_of_free owners unused.entries, fun c run => ?_, lines⟩
  obtain ⟨running, holdsLine, holdsInput, on⟩ := placed c run
  refine ⟨running, ?_, ?_, on⟩
  · rwa [State.updClaim_claims, upd_other _ _ (unused.line c run).symm]
  · rwa [State.updClaim_claims, upd_other _ _ (unused.input c run).symm]

/-- Entries and runs with their holders. -/
def State.HoldersOk (s : State) : Prop := OwnersHold s ∧ CalibrationOk s

theorem holdersOk_of_quiet (h : s.Quiet t) (ok : s.HoldersOk) : t.HoldersOk :=
  ⟨ownersHold_of_same ok.1 h.slots h.claims, calibrationOk_of_quiet h ok.2⟩

theorem giveUp_holdersOk (byReset : Bool) {p : Port} {r : Resource} (mine : s.claims[r].holder = some p)
    (ok : s.HoldersOk) : (s.giveUp byReset p r).HoldersOk := by
  obtain ⟨owners, calibration⟩ := ok
  obtain ⟨run, unused⟩ := cascade_unused byReset owners calibration mine
  have claims := (keptByFiring_closed.cascade s byReset p r).claims
  have left := ownersHold_of_descends owners (cascade_descends s byReset p r) fun q => by rw [claims]
  have passed := updClaim_holders (f := ClaimRecord.passedOn) unused ⟨left, run⟩
  unfold State.giveUp
  obtain eq | ⟨w, eq⟩ := grant_cases (s.cascade byReset p r) r <;> rw [eq]
  · exact passed
  · exact holdersOk_of_quiet (.offer _ _ _) passed

/-! ### The other operations -/

theorem halt_holdersOk (ok : s.HoldersOk) : s.halt.HoldersOk := by
  obtain ⟨owners, -, lines⟩ := ok
  obtain ⟨ns, r, -, eq⟩ := halt_cases s
  rw [eq]
  exact ⟨ownersHold_of_same owners (abortCalibration_table _ _).1 (State.abortCalibration_kept _ _).claims,
    abortCalibration_calibrationOk _ lines⟩

/-- A timebase that is not RUNNING has no run, so its state and its reference may change (R150). -/
theorem retimed_holdersOk {timebase : Timebase} {rdu : Rdu} (stopped : s.timebase ≠ .running) (ok : s.HoldersOk) :
    State.HoldersOk { s with timebase := timebase, rdu := rdu } :=
  ⟨ownersHold_of_same ok.1 rfl rfl, fun c run => absurd (ok.2.1 c run).1 stopped, ok.2.2⟩

theorem startRun_holdersOk {p : Port} {l : Line} {i : Input} (line : s.claims[lineResource l].holder = some p)
    (input : s.claims[inputResource i].holder = some p) (running : s.timebase = .running) (idle : s.calRun = none)
    (ok : s.HoldersOk) : (s.startRun p l i).HoldersOk := by
  obtain ⟨owners, -, lines⟩ := ok
  have started : (s.startRun p l i).lines = upd s.lines l fun ln => { ln with activity := .calibrating, level := ln.idle } :=
    rfl
  refine ⟨ownersHold_of_same owners rfl rfl, fun c run => ?_, fun k on => ?_⟩
  · cases run
    refine ⟨running, line, input, ?_⟩
    rw [started, upd_same]
  · rw [started, upd_get] at on
    split_ifs at on with same
    · exact ⟨_, rfl, same⟩
    · obtain ⟨c, run, -⟩ := lines k on
      rw [idle] at run
      cases run

/-- The job that the arguments of SCHEDULE give is for a line only if the port may use that line. -/
theorem holds_of_mayUse {p : Port} {j : Job} {l : Line} {a : LineAction} (use : s.mayUse p j = true)
    (job : j = .act l a) : s.claims[lineResource l].holder = some p := by
  subst job
  exact (s.holds_iff p (lineResource l)).mp use

theorem placeEntry_slots (s : State) (k : Slot) (e : Entry) : (s.placeEntry k e).slots = upd s.slots k fun _ => some e := by
  unfold State.placeEntry
  split
  next d due =>
    rw [State.makePending_slots, ← due]
  next => rfl

theorem placeEntry_holdersOk {k : Slot} {e : Entry} (use : s.mayUse e.owner e.job = true) (ok : s.HoldersOk) :
    (s.placeEntry k e).HoldersOk := by
  obtain ⟨owners, calibration⟩ := ok
  refine ⟨fun j x l a there job => ?_, ?_⟩
  · have claims : (s.placeEntry k e).claims = s.claims := by rw [placeEntry_frame]
    rw [placeEntry_slots, upd_get] at there
    rw [claims]
    split_ifs at there
    · cases there
      exact holds_of_mayUse use job
    · exact owners j x l a there job
  · rw [placeEntry_frame]
    exact calibration

theorem deviceReset_holdersOk (s : State) : s.deviceReset.HoldersOk := by
  have slots (k : Slot) : s.deviceReset.slots[k] = none := Vector.getElem_replicate _
  have lines (l : Line) : s.deviceReset.lines[l] = LineUnit.reset := Vector.getElem_replicate _
  refine ⟨fun k e l a there => ?_, calibrationOk_of_idle rfl fun l on => ?_⟩
  · rw [slots] at there
    cases there
  · rw [lines] at on
    cases on

theorem holdersInvariant : Invariant State.HoldersOk where
  quiet := holdersOk_of_quiet
  fireCheck {s} w now ok :=
    ⟨ownersHold_of_descends ok.1 (fireCheck_descends s w now) fun r => by rw [(State.fireCheck_kept s w now).claims],
      calibrationFiring.fireCheck s w now ok.2⟩
  triggerAll {s} i time ok :=
    ⟨ownersHold_of_descends ok.1 (triggerAll_descends s i time) fun r => by
        rw [(keptByFiring_closed.firing.triggerAll s i time).claims],
      calibrationFiring.triggerAll s i time ok.2⟩
  finishRun d r run ok := ⟨ownersHold_of_same ok.1 rfl rfl, finishRun_calibrationOk d r run ok.2.2⟩
  load := retimed_holdersOk
  halt _ := halt_holdersOk
  resume held := retimed_holdersOk (by simp [held])
  take {s r} p free ok := by
    have unheld {q : Resource} {x : Port} (held : s.claims[q].holder = some x) : q ≠ r := fun same => by
      rw [same, free] at held
      cases held
    refine updClaim_holders ⟨fun k e l a there job => unheld (ok.1 k e l a there job), fun c run => ?_, fun c run => ?_⟩ ok
    · exact unheld (ok.2.1 c run).2.1
    · exact unheld (ok.2.1 c run).2.2.1
  join {s r h p} _ _ _ ok := by
    have holders (q : Resource) :
        (upd s.claims r fun c => { c with waiters := s.claims[r].waiters ++ [p] })[q].holder = s.claims[q].holder := by
      rw [upd_get]
      split_ifs with same
      · rw [same]
      · rfl
    exact ⟨ownersHold_of_descends ok.1 (.of_slots rfl) holders, calibrationOk_of_holders ok.2 fun q _ => holders q⟩
  giveUp byReset mine ok := giveUp_holdersOk byReset mine ok
  shorten claims h ok :=
    ⟨ownersHold_of_descends ok.1 (.of_slots rfl) fun r => (h r).1, calibrationOk_of_holders ok.2 fun r _ => (h r).1⟩
  place _ _ use _ _ ok := placeEntry_holdersOk use ok
  remove k ok :=
    ⟨ownersHold_of_descends ok.1 (.of_slot (State.removeEntry_slots _ k) fun x eq => by cases eq) fun _ => rfl, ok.2⟩
  startRun := startRun_holdersOk
  deviceReset _ := deviceReset_holdersOk _
  retainedReset _ := deviceReset_holdersOk _

/-- Settles O59, by the induction over a step. -/
theorem holdersStay : Obligations.HoldersStay := fun _ _ => holdersInvariant.step

end Sys2Proof.Machine
end

section
/-! SUPPORT. The due order, the ranges of the entries and the quota: what an insertion, an occurrence, a trigger and a SCHEDULE
make of them (R57, R61 to R72, R86 to R99). -/

namespace Sys2Proof.Machine

open Sys2Proof.Safety

/-! ### Inserting in the due order (R65) -/

/-- A slot is inserted behind every slot at the front whose Due is not later. -/
theorem insertDue_eq (f : Slot → Nat) (k : Slot) (due : Nat) (l : List Slot) :
    insertDue f k due l = (l.takeWhile fun j => decide (f j ≤ due)) ++ k :: l.dropWhile fun j => decide (f j ≤ due) := by
  induction l with
  | nil => rfl
  | cons j rest ih => by_cases h : f j ≤ due <;> simp [insertDue, h, ih]

theorem insertDue_perm (f : Slot → Nat) (k : Slot) (due : Nat) (l : List Slot) :
    (insertDue f k due l).Perm (k :: l) := by
  rw [insertDue_eq]
  exact List.perm_middle.trans (by rw [List.takeWhile_append_dropWhile])

theorem mem_insertDue {f : Slot → Nat} {k j : Slot} {due : Nat} {l : List Slot} :
    j ∈ insertDue f k due l ↔ j = k ∨ j ∈ l :=
  (insertDue_perm f k due l).mem_iff.trans List.mem_cons

/-- The order inserted into stays as it was. -/
theorem sublist_insertDue (f : Slot → Nat) (k : Slot) (due : Nat) (l : List Slot) :
    l.Sublist (insertDue f k due l) := by
  rw [insertDue_eq]
  conv_lhs => rw [← List.takeWhile_append_dropWhile (p := fun j => decide (f j ≤ due)) (l := l)]
  exact (List.Sublist.refl _).append (List.sublist_cons_self _ _)

/-- Inserting a slot by its own Due keeps an ordered list ordered. -/
theorem pairwise_insertDue {f g : Slot → Nat} {k : Slot} {due : Nat} {l : List Slot}
    (sorted : l.Pairwise fun i j => f i ≤ f j) (others : ∀ j ∈ l, g j = f j) (own : g k = due) :
    (insertDue f k due l).Pairwise fun i j => g i ≤ g j := by
  induction l with
  | nil => exact List.pairwise_singleton _ _
  | cons j rest ih =>
    obtain ⟨least, sorted⟩ := List.pairwise_cons.mp sorted
    have ownJ := others j (by simp)
    have ownRest : ∀ i ∈ rest, g i = f i := fun i there => others i (by simp [there])
    unfold insertDue
    split_ifs with before
    · refine List.pairwise_cons.mpr ⟨fun i there => ?_, ih sorted ownRest⟩
      rcases mem_insertDue.mp there with rfl | there
      · rw [own, ownJ]
        exact before
      · rw [ownJ, ownRest i there]
        exact least i there
    · refine List.pairwise_cons.mpr ⟨fun i there => ?_, List.pairwise_cons.mpr ⟨fun i there => ?_, ?_⟩⟩
      · rcases List.mem_cons.mp there with rfl | there
        · omega
        · have := least i there
          rw [own, ownRest i there]
          omega
      · rw [ownJ, ownRest i there]
        exact least i there
      · exact sorted.imp_of_mem fun hi hj le => by rwa [ownRest _ hi, ownRest _ hj]

/-! ### The due order of a table -/

variable {s t : State}

theorem dueAt_congr {k : Slot} (same : t.slots[k] = s.slots[k]) : t.dueAt k = s.dueAt k := by
  unfold State.dueAt
  rw [same]

theorem dueAt_of_pending {k : Slot} {e : Entry} {d : TimeValue} (there : s.slots[k] = some e) (due : e.due = some d) :
    s.dueAt k = d.toNat := by
  simp only [State.dueAt, there, due, Option.getD_some]

theorem dueOrderOk_of_same (ok : DueOrderOk s) (slots : t.slots = s.slots) (order : t.dueOrder = s.dueOrder) :
    DueOrderOk t := by
  have dueAt : t.dueAt = s.dueAt := funext fun k => dueAt_congr (by rw [slots])
  obtain ⟨distinct, holds, sorted⟩ := ok
  refine ⟨by rwa [order], fun k => ?_, by rwa [order, dueAt]⟩
  rw [order, slots]
  exact holds k

/-- A slot that has no PENDING entry any more, and is taken off the order, leaves the order right. -/
theorem dueOrderOk_of_drop {k : Slot} {x : Option Entry} (ok : DueOrderOk s) (slots : t.slots = upd s.slots k fun _ => x)
    (order : t.dueOrder = s.dueOrder.filter fun j => j != k) (none : ∀ e, x = some e → e.due = none) :
    DueOrderOk t := by
  obtain ⟨distinct, holds, sorted⟩ := ok
  have there {j : Slot} (ne : j ≠ k) : t.slots[j] = s.slots[j] := by rw [slots, upd_other _ _ ne.symm]
  refine ⟨order ▸ distinct.filter _, fun j => ?_, ?_⟩
  · rw [order, List.mem_filter, bne_iff_ne]
    by_cases same : j = k
    · subst same
      rw [slots, upd_same]
      simp only [ne_eq, not_true_eq_false, and_false, false_iff, not_exists, not_and]
      intro e here
      simp [none e here]
    · rw [there same, ← holds j]
      simp [same]
  · rw [order]
    refine (sorted.filter _).imp_of_mem fun hi hj le => ?_
    rw [List.mem_filter, bne_iff_ne] at hi hj
    rwa [dueAt_congr (there hi.2), dueAt_congr (there hj.2)]

/-- An entry made PENDING, anew if it was PENDING, leaves the order right (R65). -/
theorem makePending_dueOrderOk (k : Slot) (e : Entry) (due : TimeValue) (ok : DueOrderOk s) :
    DueOrderOk (s.makePending k e due) := by
  obtain ⟨distinct, holds, sorted⟩ := ok
  have there {j : Slot} (ne : j ≠ k) : (s.makePending k e due).slots[j] = s.slots[j] := by
    rw [State.makePending_slots, upd_other _ _ ne.symm]
  have here : (s.makePending k e due).slots[k] = some { e with due := some due } := by
    rw [State.makePending_slots, upd_same]
  have notThere : k ∉ s.dueOrder.filter fun j => j != k := by simp
  refine ⟨?_, fun j => ?_, ?_⟩
  · rw [State.makePending_dueOrder, (insertDue_perm _ _ _ _).nodup_iff]
    exact List.nodup_cons.mpr ⟨notThere, distinct.filter _⟩
  · rw [State.makePending_dueOrder, mem_insertDue, List.mem_filter, bne_iff_ne]
    by_cases same : j = k
    · subst same
      simp
    · rw [there same, ← holds j]
      simp [same]
  · rw [State.makePending_dueOrder]
    refine pairwise_insertDue (sorted.filter _) (fun j there' => ?_) (dueAt_of_pending here rfl)
    rw [List.mem_filter, bne_iff_ne] at there'
    exact dueAt_congr (there there'.2)

/-! ### The quota (R57) -/

/-- The entries of a port are the slots whose entry it owns. -/
theorem entryCount_eq (s : State) (p : Port) :
    s.entryCount p = (List.finRange 64).countP fun k => s.slots[k].any fun e => e.owner == p := by
  have slots : s.slots.toList = (List.finRange 64).map fun k => s.slots[k] := by
    apply List.ext_getElem <;> simp
  rw [State.entryCount, slots, List.countP_map]
  congr 1
  funext k
  simp only [Function.comp]
  cases s.slots[k] <;> rfl

theorem entryCount_le_of_descends (h : s.Descends t) (p : Port) : t.entryCount p ≤ s.entryCount p := by
  rw [entryCount_eq, entryCount_eq]
  refine List.countP_mono_left fun k _ owned => ?_
  cases there : t.slots[k] with
  | none => simp [there] at owned
  | some e =>
    obtain ⟨old, thereOld, owner, -⟩ := h k e there
    rw [there] at owned
    rw [thereOld]
    simpa [owner] using owned

theorem countP_le_add {α : Type} {a b c : α → Bool} {l : List α} (h : ∀ x, a x = true → b x = true ∨ c x = true) :
    l.countP a ≤ l.countP b + l.countP c := by
  induction l with
  | nil => simp
  | cons x l ih =>
    simp only [List.countP_cons]
    have := h x
    split_ifs <;> simp_all <;> omega

/-- An entry in an empty slot is one more for its owner. -/
theorem entryCount_le_placed {k : Slot} {e : Entry} (slots : t.slots = upd s.slots k fun _ => some e) (p : Port) :
    t.entryCount p ≤ s.entryCount p + if e.owner = p then 1 else 0 := by
  rw [entryCount_eq, entryCount_eq]
  have one : ((List.finRange 64).countP fun j => decide (j = k ∧ e.owner = p)) ≤ if e.owner = p then 1 else 0 := by
    split_ifs with owner
    · simp only [owner, and_true]
      exact List.nodup_iff_count_le_one.mp (List.nodup_finRange 64) k
    · simp [owner]
  refine le_trans (countP_le_add fun j owned => ?_) (Nat.add_le_add_left one _)
  rw [slots, upd_get] at owned
  split_ifs at owned with here
  · exact .inr (by simpa [here.symm] using owned)
  · exact .inl owned

/-! ### The ranges of an entry (R61 to R63, R96 to R99) -/

/-- The next Due that an occurrence leaves is that of an entry with Repeat, and some of its Remaining is left. -/
theorem settleSeries_next {wrapped : Bool} {e : Entry} {d due : TimeValue} {late : Nat} {left : Count}
    (h : (settleSeries wrapped e d late).next = some (due, left)) :
    ∃ r n, e.series = some r ∧ left = Count.less n e.remaining ∧ ∀ m, e.remaining = .finite m → n < m := by
  unfold settleSeries at h
  split at h
  · cases h
  next r series =>
    refine ⟨r, catchUp late r.period, series, ?_⟩
    cases remaining : e.remaining with
    | unlimited =>
      simp only [remaining] at h
      split_ifs at h
      cases h
      exact ⟨rfl, by rintro m ⟨⟩⟩
    | finite m =>
      simp only [remaining] at h
      split_ifs at h with few
      cases h
      refine ⟨rfl, fun m' same => ?_⟩
      cases same
      exact Nat.lt_of_not_le few

theorem less_countOk {n : Nat} {c : Count} (ok : CountOk c) (some : ∀ m, c = .finite m → n < m) :
    CountOk (Count.less n c) := by
  cases c with
  | unlimited => rintro m ⟨⟩
  | finite k =>
    rintro m ⟨⟩
    have := ok k rfl
    have := some k rfl
    omega

/-- Re-inserted with a next Due, an entry stays in range. -/
theorem reinserted_entryOk {wrapped : Bool} {e : Entry} {d due : TimeValue} {late : Nat} {left : Count} (ok : EntryOk e)
    (h : (settleSeries wrapped e d late).next = some (due, left)) :
    EntryOk { e with due := some due, remaining := left } := by
  obtain ⟨r, n, series, rfl, some⟩ := settleSeries_next h
  obtain ⟨-, width, range, remaining, -⟩ := ok
  exact ⟨fun _ => by simp, width, range, less_countOk remaining some, fun none => by simp [series] at none⟩

/-- Back to ARMED with its Initial count, or 1 without Repeat, an entry stays in range (R99). -/
theorem rearmed_entryOk {e : Entry} {i : Input} {offset : BitVec 24} {rearm : Bool} (ok : EntryOk e)
    (form : e.form = .armed i offset rearm) :
    EntryOk { e with
      due := none
      remaining := match e.series with
        | some r => r.initial
        | none => .finite 1 } := by
  obtain ⟨-, width, range, -, -⟩ := ok
  refine ⟨fun timed => ?_, width, range, ?_, fun none => ?_⟩
  · rw [form] at timed
    cases timed
  · cases series : e.series with
    | none =>
      rintro n ⟨⟩
      exact ⟨Nat.le_refl 1, by decide⟩
    | some r => exact (range r series).2.2
  · dsimp only at none ⊢
    rw [none]

theorem triggered_entryOk {e : Entry} {due : TimeValue} (ok : EntryOk e) : EntryOk { e with due := some due } := by
  obtain ⟨-, rest⟩ := ok
  exact ⟨fun _ => by simp, rest⟩

/-! ### The arguments of SCHEDULE (R68, 11.7.3) -/

theorem arg_lt (args : List Byte) (k : Nat) : arg args k < 256 := (args.getD k 0).isLt

theorem field_lt (args : List Byte) (k n : Nat) : field args k n < 256 ^ n := by
  induction n with
  | zero => simp [field]
  | succ n ih =>
    have last := arg_lt args (k + n)
    rw [field, pow_succ]
    omega

/-- The conditions on good arguments, one by one. -/
theorem scheduleArgsOk_spec (args : List Byte) : scheduleArgsOk args = true ↔
    arg args 0 ≤ 6 ∧ ((arg args 0 = 6 → arg args 1 = 0) ∧ (arg args 0 ≠ 6 → arg args 1 < 8)) ∧ optNotify args ≠ 3
      ∧ arg args 2 < 64 ∧ (optRearm args = true → optArmed args = true)
      ∧ ((arg args 0 = 3 → 1 ≤ widthArg args ∧ widthArg args ≤ Config.maxTicks) ∧ (arg args 0 ≠ 3 → widthArg args = 0))
      ∧ ((optRepeat args = true → 16 ≤ periodArg args ∧ periodArg args ≤ 1073741824)
        ∧ (optRepeat args = false → periodArg args = 0 ∧ countArg args = 0))
      ∧ ((optArmed args = true → arg args 3 < 8 ∧ field args 7 4 = 0)
        ∧ (optArmed args = false → field args 8 3 < 2 ^ 20 ∧ arg args 3 = 0)) := by
  simp only [scheduleArgsOk, timeFieldOk, Bool.and_eq_true, Bool.or_eq_true, Bool.not_eq_true', decide_eq_true_eq,
    ite_eq_iff', Bool.not_eq_true, and_assoc]
  cases optArmed args <;> simp

/-- None of the conditions of R68 holds exactly when the arguments are good. -/
theorem scheduleArgsOk_iff {args : List Byte} : scheduleArgsOk args = true ↔ ¬scheduleArgsBad args := by
  rw [scheduleArgsOk_spec]
  simp only [scheduleArgsBad, not_or, not_and, optNotify, optArmed, optRearm, optRepeat, widthArg, periodArg, countArg,
    Config.maxTicks]
  generalize (arg args 2).testBit 0 = armed
  generalize (arg args 2).testBit 4 = repeats
  generalize (arg args 2).testBit 5 = rearms
  cases armed <;> cases repeats <;> cases rearms <;> simp <;> omega

theorem cyclesOf_countOk {n : Nat} (le : n ≤ 65535) : CountOk (cyclesOf n) := by
  intro m same
  unfold cyclesOf at same
  split_ifs at same
  cases same
  omega

theorem jobArg_pulse {args : List Byte} {l : Line} {w : Nat} (job : jobArg args = .act l (.pulse w)) :
    arg args 0 = 3 ∧ w = widthArg args := by
  unfold jobArg at job
  split at job <;> simp_all

/-- The entry that good arguments describe is in range. -/
theorem entryArg_entryOk {args : List Byte} (p : Port) (good : scheduleArgsOk args = true) :
    EntryOk (entryArg p args) := by
  obtain ⟨-, -, -, -, -, ⟨width, -⟩, ⟨period, -⟩, -⟩ := (scheduleArgsOk_spec args).mp good
  have initial : CountOk (initialArg args) := cyclesOf_countOk (Nat.le_of_lt_succ (field_lt args 18 2))
  unfold entryArg
  refine ⟨fun timed => ?_, fun l w job => ?_, fun r series => ?_, ?_, fun none => ?_⟩ <;> dsimp only at *
  · split_ifs at timed ⊢
    simp
  · obtain ⟨pulse, rfl⟩ := jobArg_pulse job
    exact width pulse
  · split_ifs at series with repeats
    cases series
    obtain ⟨least, most⟩ := period repeats
    exact ⟨least, most, initial⟩
  · split_ifs
    · exact initial
    · rintro n ⟨⟩
      exact ⟨Nat.le_refl 1, by decide⟩
  · split_ifs at none ⊢
    rfl

/-! ### The table (R57, R61, R65, R69) -/

theorem tableOk_of_same (ok : TableOk s) (slots : t.slots = s.slots) (order : t.dueOrder = s.dueOrder)
    (timebase : t.timebase = .unset → s.timebase = .unset) : TableOk t := by
  obtain ⟨inOrder, inRange, quota, empty⟩ := ok
  refine ⟨dueOrderOk_of_same inOrder slots order, fun k e there => inRange k e (slots ▸ there), fun p => ?_, fun unset k => ?_⟩
  · exact (entryCount_le_of_descends (.of_slots slots) p).trans (quota p)
  · rw [slots]
    exact empty (timebase unset) k

/-- One slot emptied, or its entry replaced by one in range with the same owner and job, with the due order brought up to
date. -/
theorem tableOk_of_slot {k : Slot} {x : Option Entry} (ok : TableOk s) (slots : t.slots = upd s.slots k fun _ => x)
    (timebase : t.timebase = s.timebase) (order : DueOrderOk t)
    (entry : ∀ e, x = some e → EntryOk e ∧ ∃ old, s.slots[k] = some old ∧ old.owner = e.owner ∧ old.job = e.job) :
    TableOk t := by
  obtain ⟨-, inRange, quota, empty⟩ := ok
  have descends : s.Descends t := .of_slot slots fun e here => (entry e here).2
  refine ⟨order, fun j e there => ?_, fun p => (entryCount_le_of_descends descends p).trans (quota p), fun unset j => ?_⟩
  · rw [slots, upd_get] at there
    split_ifs at there
    · exact (entry e there).1
    · exact inRange j e there
  · cases there : t.slots[j] with
    | none => rfl
    | some e =>
      obtain ⟨old, thereOld, -⟩ := descends j e there
      rw [empty (timebase ▸ unset) j] at thereOld
      cases thereOld

theorem removeEntry_tableOk (k : Slot) (ok : TableOk s) : TableOk (s.removeEntry k) :=
  tableOk_of_slot ok (State.removeEntry_slots s k) rfl
    (dueOrderOk_of_drop ok.1 (State.removeEntry_slots s k) (State.removeEntry_dueOrder s k) fun _ => nofun) fun _ => nofun

theorem makePending_tableOk {k : Slot} {old e : Entry} (due : TimeValue) (ok : TableOk s) (there : s.slots[k] = some old)
    (owner : old.owner = e.owner) (job : old.job = e.job) (inRange : EntryOk { e with due := some due }) :
    TableOk (s.makePending k e due) :=
  tableOk_of_slot ok (State.makePending_slots s k e due) rfl (makePending_dueOrderOk k e due ok.1) fun _ eq => by
    cases eq
    exact ⟨inRange, old, there, owner, job⟩

/-- Settling an entry keeps the table in order. -/
theorem settleEntry_tableOk {k : Slot} {e : Entry} {wrapped : Bool} {d : TimeValue} {late : Nat} (ok : TableOk s)
    (there : s.slots[k] = some e) : TableOk (s.settleEntry k e (settleSeries wrapped e d late).next) := by
  have inRange := ok.2.1 k e there
  unfold State.settleEntry State.finishEntry
  split
  next due left next =>
    have back := reinserted_entryOk inRange next
    exact makePending_tableOk due ok there rfl rfl back
  next =>
    split
    next i offset form =>
      refine tableOk_of_slot ok (State.makeArmed_slots s k e _) rfl
        (dueOrderOk_of_drop ok.1 (State.makeArmed_slots s k e _) (State.makeArmed_dueOrder s k e _) ?_) ?_
      · rintro _ ⟨⟩
        rfl
      · rintro _ ⟨⟩
        exact ⟨rearmed_entryOk inRange form, e, there, rfl, rfl⟩
    next => exact removeEntry_tableOk k ok

theorem occurrence_tableOk (s : State) (wrapped : Bool) (now : TimeValue) (k : Slot) (ok : TableOk s) :
    TableOk (s.occurrence wrapped now k) := by
  obtain ⟨absent, eq⟩ | ⟨e, d, u, there, -, kept, ⟨slots, -, order⟩, eq⟩ := occurrence_cases s wrapped now k
  · have notThere : k ∉ s.dueOrder := fun mem => by
      obtain ⟨e, there, pending⟩ := (ok.1.2.1 k).mp mem
      obtain ⟨d, due⟩ := Option.isSome_iff_exists.mp pending
      rw [(pendingIn_iff s).mpr ⟨there, due⟩] at absent
      cases absent
    rw [eq]
    refine tableOk_of_same ok rfl (List.filter_eq_self.mpr fun j mem => ?_) id
    rw [bne_iff_ne]
    rintro rfl
    exact notThere mem
  · rw [eq]
    exact settleEntry_tableOk (tableOk_of_same ok slots order fun unset => kept.timebase ▸ unset) (slots ▸ there)

/-- An ARMED entry made PENDING keeps the table in order (R78). -/
theorem triggerSlot_tableOk (s : State) (i : Input) (time : TimeValue) (k : Slot) (ok : TableOk s) :
    TableOk (s.triggerSlot i time k) := by
  unfold State.triggerSlot
  split
  next e offset on =>
    obtain ⟨there, -, -⟩ := (armedOn_iff s).mp on
    exact makePending_tableOk _ ok there rfl rfl (triggered_entryOk (ok.2.1 k e there))
  next => exact ok

/-- A new entry in an empty slot, within the quota, keeps the table in order (R72). -/
theorem placeEntry_tableOk {k : Slot} {e : Entry} (set : s.timebase ≠ .unset) (inRange : EntryOk e)
    (free : s.slots[k] = none) (few : s.entryCount e.owner < 24) (ok : TableOk s) : TableOk (s.placeEntry k e) := by
  obtain ⟨inOrder, others, quota, -⟩ := ok
  have slots := placeEntry_slots s k e
  refine ⟨?_, fun j x there => ?_, fun p => ?_, fun unset => ?_⟩
  · unfold State.placeEntry
    split
    next d _ => exact makePending_dueOrderOk k e d inOrder
    next armed =>
      have absent : k ∉ s.dueOrder := fun mem => by
        obtain ⟨x, there, -⟩ := (inOrder.2.1 k).mp mem
        rw [free] at there
        cases there
      refine dueOrderOk_of_drop (s := s) inOrder rfl (List.filter_eq_self.mpr fun j mem => ?_).symm ?_
      · rw [bne_iff_ne]
        rintro rfl
        exact absent mem
      · rintro _ ⟨⟩
        exact armed
  · rw [slots, upd_get] at there
    split_ifs at there
    · cases there
      exact inRange
    · exact others j x there
  · have placed := entryCount_le_placed slots p
    have before := quota p
    split_ifs at placed with owner
    · subst owner
      omega
    · omega
  · rw [placeEntry_frame] at unset
    exact absurd unset set

theorem abortCalibration_tableOk (reason : AbortReason) (ok : TableOk s) : TableOk (s.abortCalibration reason) := by
  obtain ⟨slots, -, order⟩ := abortCalibration_table s reason
  exact tableOk_of_same ok slots order fun unset => (State.abortCalibration_kept s reason).timebase ▸ unset

theorem cascade_tableOk (byReset : Bool) (p : Port) (r : Resource) (ok : TableOk s) :
    TableOk (s.cascade byReset p r) := by
  unfold State.cascade
  split_ifs with line
  · obtain ⟨slots, -, order⟩ := abortOn_table s ⟨r.val, line⟩ (releaseReason byReset p s)
    have kept := State.abortOn_kept s ⟨r.val, line⟩ (releaseReason byReset p s)
    refine Invariant.foldl (P := TableOk) (fun _ k => removeEntry_tableOk k) _ _ ?_
    exact tableOk_of_same ok slots order fun unset => kept.timebase ▸ unset
  · unfold State.cascadeInput
    split_ifs
    · exact abortCalibration_tableOk _ ok
    · exact ok
  · exact ok

theorem giveUp_tableOk (byReset : Bool) (p : Port) (r : Resource) (ok : TableOk s) :
    TableOk (s.giveUp byReset p r) := by
  have cascaded := cascade_tableOk byReset p r ok
  unfold State.giveUp
  obtain eq | ⟨w, eq⟩ := grant_cases (s.cascade byReset p r) r <;> rw [eq] <;> exact tableOk_of_same cascaded rfl rfl id

theorem halt_tableOk (ok : TableOk s) : TableOk s.halt := by
  obtain ⟨ns, r, -, eq⟩ := halt_cases s
  rw [eq]
  exact abortCalibration_tableOk _ (tableOk_of_same ok rfl rfl nofun)

theorem deviceReset_tableOk (s : State) : TableOk s.deviceReset := by
  have slots (k : Slot) : s.deviceReset.slots[k] = none := Vector.getElem_replicate _
  refine ⟨⟨List.nodup_nil, fun k => ?_, List.Pairwise.nil⟩, fun k e there => ?_, fun p => ?_, fun _ => slots⟩
  · rw [slots]
    simp [State.deviceReset, State.reset]
  · rw [slots] at there
    cases there
  · rw [entryCount_eq]
    simp [slots]

theorem tableInvariant : Invariant TableOk where
  quiet h ok := tableOk_of_same ok h.slots h.dueOrder fun unset => h.timebase ▸ unset
  fireCheck _ _ := fireCheck_keeps occurrence_tableOk _ _
  triggerAll i time := Invariant.foldl (fun u => triggerSlot_tableOk u i time) _ _
  finishRun _ _ _ ok := tableOk_of_same ok rfl rfl id
  load _ ok := tableOk_of_same ok rfl rfl nofun
  halt _ := halt_tableOk
  resume _ ok := tableOk_of_same ok rfl rfl nofun
  take _ _ ok := tableOk_of_same ok rfl rfl id
  join _ _ _ ok := tableOk_of_same ok rfl rfl id
  giveUp byReset _ := giveUp_tableOk byReset _ _
  shorten _ _ ok := tableOk_of_same ok rfl rfl id
  place set good _ free few := placeEntry_tableOk set (entryArg_entryOk _ good) free few
  remove k := removeEntry_tableOk k
  startRun _ _ _ _ ok := tableOk_of_same ok rfl rfl id
  deviceReset _ := deviceReset_tableOk _
  retainedReset _ := deviceReset_tableOk _

/-- Settles O58, by the induction over a step. -/
theorem tableStays : Obligations.TableStays := fun _ _ => tableInvariant.step

end Sys2Proof.Machine
end

section
/-! SUPPORT. The layouts of fields: how many bytes a field has, which byte is which, and that each field is read as it is
written (R165, R166, R168, R174, 11.7.1). -/

namespace Sys2Proof.Machine

open Sys2Proof.Safety

/-! ### Bytes of a field -/

theorem bytes_length (n x : Nat) : (bytes n x).length = n := by
  induction n with
  | zero => rfl
  | succ n ih => rw [bytes, List.length_cons, ih]

theorem ofNat_byte_mod (x : Nat) : BitVec.ofNat 8 (x % 256) = BitVec.ofNat 8 x :=
  BitVec.eq_of_toNat_eq (by simp)

/-- Byte k of a field of n bytes is the k-th most significant (R174). -/
theorem bytes_getElem? {n k : Nat} (x : Nat) (h : k < n) :
    (bytes n x)[k]? = some (BitVec.ofNat 8 (x / 256 ^ (n - 1 - k) % 256)) := by
  induction n generalizing k with
  | zero => omega
  | succ n ih =>
    cases k with
    | zero => simp [bytes, ofNat_byte_mod]
    | succ k =>
      rw [bytes, List.getElem?_cons_succ, ih (by omega)]
      congr 5
      omega

/-- The last byte of a field is the least significant. -/
theorem bytes_succ (n x : Nat) : bytes (n + 1) x = bytes n (x / 256) ++ [BitVec.ofNat 8 x] := by
  induction n with
  | zero => simp [bytes]
  | succ n ih =>
    rw [bytes, ih, bytes, List.cons_append, Nat.div_div_eq_div_mul, pow_succ']

/-! ### Reading a field -/

theorem arg_middle (before after : List Byte) (b : Byte) : arg (before ++ b :: after) before.length = b.toNat := by
  simp [arg]

/-- An unsigned field is read as it is written. -/
theorem field_bytes (before after : List Byte) {n x : Nat} (h : x < 256 ^ n) :
    field (before ++ bytes n x ++ after) before.length n = x := by
  induction n generalizing x after with
  | zero => simp_all [field]
  | succ n ih =>
    have high : x / 256 < 256 ^ n := Nat.div_lt_of_lt_mul (by rwa [← pow_succ'])
    have split : before ++ bytes (n + 1) x ++ after
        = before ++ bytes n (x / 256) ++ (BitVec.ofNat 8 x :: after) := by
      simp [bytes_succ]
    have last := arg_middle (before ++ bytes n (x / 256)) after (BitVec.ofNat 8 x)
    rw [List.length_append, bytes_length] at last
    rw [split, field, ih _ high, last, BitVec.toNat_ofNat]
    omega

/-- A field at the very beginning. -/
theorem field_first (after : List Byte) {n x : Nat} (h : x < 256 ^ n) : field (bytes n x ++ after) 0 n = x :=
  field_bytes [] after h

/-- A signed field is read as it is written. -/
theorem signedField_signedBytes (before after : List Byte) {n : Nat} {x : Int} (some : 0 < n)
    (least : -(2 ^ (8 * n - 1)) ≤ x) (most : x < 2 ^ (8 * n - 1)) :
    signedField (before ++ signedBytes n x ++ after) before.length n = x := by
  have fits : (BitVec.ofInt (8 * n) x).toNat < 256 ^ n := by
    have := (BitVec.ofInt (8 * n) x).isLt
    rwa [pow_mul] at this
  rw [signedField, signedBytes, field_bytes _ _ fits, BitVec.ofNat_toNat, BitVec.setWidth_eq]
  exact BitVec.toInt_ofInt_eq_self (by omega) least most

theorem timeOf_parts (t : TimeValue) : timeOf (seconds t) (fraction t) = t := by
  rw [timeOf, seconds, fraction, Nat.div_add_mod', BitVec.ofNat_toNat, BitVec.setWidth_eq]

theorem seconds_lt (t : TimeValue) : seconds t < 256 ^ 4 := by
  have := t.isLt
  unfold seconds
  omega

theorem fraction_lt (t : TimeValue) : fraction t < 2 ^ 20 := Nat.mod_lt _ (by simp)

/-- A time value is read as it is written, and its fraction is good. -/
theorem timeField_timeBytes (before after : List Byte) (t : TimeValue) :
    timeField (before ++ timeBytes t ++ after) before.length = t
      ∧ timeFieldOk (before ++ timeBytes t ++ after) before.length = true := by
  have high := field_bytes before (bytes 3 (fraction t) ++ after) (seconds_lt t)
  have small : fraction t < 256 ^ 3 := (fraction_lt t).trans (by decide)
  have low := field_bytes (before ++ bytes 4 (seconds t)) after small
  rw [List.length_append, bytes_length] at low
  have text : before ++ timeBytes t ++ after = before ++ bytes 4 (seconds t) ++ (bytes 3 (fraction t) ++ after) := by
    simp [timeBytes]
  have text' : before ++ timeBytes t ++ after = before ++ bytes 4 (seconds t) ++ bytes 3 (fraction t) ++ after := by
    simp [timeBytes]
  have readHigh : field (before ++ timeBytes t ++ after) before.length 4 = seconds t := by rw [text, high]
  have readLow : field (before ++ timeBytes t ++ after) (before.length + 4) 3 = fraction t := by rw [text', low]
  exact ⟨by rw [timeField, readHigh, readLow, timeOf_parts], by rw [timeFieldOk, readLow]; exact decide_eq_true (fraction_lt t)⟩

/-! ### Signed fields (R174) -/

theorem signedBytes_of_nonneg {n : Nat} {x : Int} (some : 0 < n) (least : 0 ≤ x) (most : x < 2 ^ (8 * n - 1)) :
    signedBytes n x = bytes n x.toNat := by
  have wider : (2 : Int) ^ (8 * n - 1) < 2 ^ (8 * n) := pow_lt_pow_right₀ (by norm_num) (by omega)
  rw [signedBytes, BitVec.toNat_ofInt]
  congr 2
  push_cast
  exact Int.emod_eq_of_lt least (by omega)

theorem signedBytes_of_neg {n : Nat} {x : Int} (some : 0 < n) (least : -(2 ^ (8 * n - 1)) ≤ x) (most : x < 0) :
    signedBytes n x = bytes n (2 ^ (8 * n) + x).toNat := by
  have wider : (2 : Int) ^ (8 * n - 1) < 2 ^ (8 * n) := pow_lt_pow_right₀ (by norm_num) (by omega)
  rw [signedBytes, BitVec.toNat_ofInt]
  congr 2
  push_cast
  rw [← Int.add_emod_left]
  exact Int.emod_eq_of_lt (by omega) (by omega)

/-! ### The check byte (R166) -/

/-- One shift of the register, with the bit shifted out read as a number. -/
theorem crcShift_eq (r : Byte) : crcShift r = if 128 ≤ r.toNat then (r <<< 1) ^^^ 0x07 else r <<< 1 := by
  rw [crcShift, BitVec.msb_eq_decide]
  simp

theorem crc8_append (bs : List Byte) (b : Byte) : crc8 (bs ++ [b]) = crcShift^[8] (crc8 bs ^^^ b) := by
  rw [crc8, List.foldl_append]
  rfl

/-- Settles O14. -/
theorem layoutsHold : Obligations.LayoutsHold := by
  refine ⟨⟨rfl, fun bs b => ?_⟩, by decide +kernel, by decide +kernel, by decide +kernel, rfl, fun _ _ => rfl,
    fun n x => ⟨bytes_length n x, fun k => bytes_getElem? x⟩,
    fun n x some => ⟨signedBytes_of_nonneg some, signedBytes_of_neg some⟩, fun _ => rfl,
    fun before after n x => field_bytes before after, fun before after n x => signedField_signedBytes before after,
    timeField_timeBytes⟩
  rw [crc8_append]
  congr 1
  funext r
  exact crcShift_eq r

end Sys2Proof.Machine
end

section
/-! SUPPORT. Device reset, retained reset and the supplies: the defaults of the main domain, what the retained domain and the
pins do, and the invariants of the part after reset (R20 to R22, R159, R172, R173). -/

namespace Sys2Proof.Machine

open Sys2Proof.Safety

variable (s : State)

/-! ### Device reset -/

theorem deviceReset_port (p : Port) : s.deviceReset.ports[p]
    = { Client.reset with csLow := s.ports[p].csLow, rstLow := s.ports[p].rstLow, inReset := s.ports[p].rstLow } :=
  each_get _ _ p

/-- A device reset sets every item of the main domain to its default (R22). -/
theorem deviceReset_mainDefaults : MainDefaults s.deviceReset := by
  have claims (r : Resource) : s.deviceReset.claims[r] = ClaimRecord.reset := Vector.getElem_replicate _
  have slots (k : Slot) : s.deviceReset.slots[k] = none := Vector.getElem_replicate _
  have gens (k : Slot) : s.deviceReset.gens[k] = 0 := Vector.getElem_replicate _
  have lines (l : Line) : s.deviceReset.lines[l] = LineUnit.reset := Vector.getElem_replicate _
  have inputs (i : Input) : s.deviceReset.inputs[i] = Channel.reset := Vector.getElem_replicate _
  have results (l : Line) : s.deviceReset.results[l] = CalResult.reset := Vector.getElem_replicate _
  refine ⟨rfl, ⟨rfl, rfl, rfl, rfl, rfl, rfl, rfl, rfl, rfl, rfl, rfl, rfl, rfl, rfl⟩, fun r => ?_,
    fun k => ⟨slots k, gens k⟩, rfl, fun l => ?_, fun i => ?_, rfl, rfl, rfl, rfl, fun l => ?_, fun p => ?_⟩
  · simp only [claims, ClaimRecord.reset, and_self]
  · simp only [lines, LineUnit.reset, and_self]
  · simp only [inputs, Channel.reset, and_self]
  · simp only [results, CalResult.reset, and_self]
  · simp only [deviceReset_port, Client.reset, and_self]

theorem deviceReset_pinsStay : PinsStay s s.deviceReset :=
  ⟨fun p => by simp only [deviceReset_port, and_self], rfl⟩

theorem deviceReset_retainedStays : RetainedStays s s.deviceReset := ⟨rfl, rfl, rfl, rfl, rfl, rfl⟩

/-- The part after reset is as a device reset leaves it. -/
theorem deviceReset_reset : State.reset.deviceReset = State.reset := by decide +kernel

/-- Settles O4: the part after reset is the outcome of a device reset of a cleared retained domain. -/
theorem resetState : Obligations.ResetState := by
  refine ⟨⟨rfl, rfl, rfl, rfl, rfl, rfl⟩, ?_, fun p => ?_⟩
  · rw [← deviceReset_reset]
    exact deviceReset_mainDefaults _
  · have port : State.reset.ports[p] = Client.reset := Vector.getElem_replicate _
    rw [port]
    rfl

/-- Settles O5. -/
theorem deviceResetKeepsRetained : Obligations.DeviceResetKeepsRetained := by
  intro s
  exact ⟨⟨_, rfl, rfl, rfl, deviceReset_retainedStays { s.settle with nrstLow := true }, deviceReset_mainDefaults _,
      deviceReset_pinsStay { s.settle with nrstLow := true }⟩,
    ⟨_, rfl, rfl, rfl, deviceReset_retainedStays { s.settle with vddm := true }, deviceReset_mainDefaults _,
      deviceReset_pinsStay { s.settle with vddm := true }⟩,
    ⟨_, rfl, rfl, deviceReset_retainedStays { s.settle with vddm := false },
      deviceReset_pinsStay { s.settle with vddm := false }⟩⟩

/-- Settles O6. -/
theorem retainedResetClears : Obligations.RetainedResetClears := by
  intro s
  refine ⟨⟨_, rfl, rfl, ⟨rfl, rfl, rfl, rfl, rfl, rfl⟩, deviceReset_mainDefaults _,
      deviceReset_pinsStay { s.settle.clearRetained with vddr := true }⟩,
    ⟨_, rfl, rfl, ?_, rfl, deviceReset_pinsStay { s.settle.clearRetained with vddr := false }⟩⟩
  simp [State.active, State.deviceReset]

/-- Settles O7. -/
theorem resetsEnd : Obligations.ResetsEnd := by
  intro p s
  have rise : exec (.pnrstRise p) s
      = .next (if s.settle.ports[p].rstLow then s.settle.updPort p fun c => { c with rstLow := false, inReset := false }
          else s.settle) := rfl
  exact ⟨rfl, fun low => by rw [rise, if_pos low], fun high => by rw [rise, high, if_neg Bool.false_ne_true]⟩

/-- Settles O60: the part after reset is the outcome of a device reset, which puts each in order. -/
theorem invariantsAtReset : Obligations.InvariantsAtReset := by
  unfold Obligations.InvariantsAtReset
  rw [← deviceReset_reset]
  obtain ⟨owners, calibration⟩ := deviceReset_holdersOk State.reset
  exact ⟨deviceReset_noticesOk _, deviceReset_claimsOk _, deviceReset_logOk _,
    deviceReset_disciplineOk (by simp [State.reset]) (by simp [State.reset]), deviceReset_tableOk _, owners, calibration⟩

end Sys2Proof.Machine
end

section
/-! SUPPORT. Ports: transactions, frames that are not carried out, the status report, the notices a port takes, and what the
board sees (R106, R155 to R171). -/

namespace Sys2Proof.Machine

open Sys2Proof.Safety

variable {s : State} {p : Port}

/-! ### Changes of one port -/

theorem updPort_updPort (f g : Client → Client) : (s.updPort p f).updPort p g = s.updPort p fun c => g (f c) := by
  have ports : upd (upd s.ports p f) p g = upd s.ports p fun c => g (f c) := table_ext fun q => by
    rw [upd_get, upd_get, upd_get, upd_get, if_pos rfl]
    split_ifs <;> rfl
  rw [State.updPort, State.updPort, State.updPort, ports]

/-- Only what a change makes of the port itself counts. -/
theorem updPort_congr {f g : Client → Client} (same : f s.ports[p] = g s.ports[p]) : s.updPort p f = s.updPort p g := by
  rw [State.updPort, State.updPort, upd, upd, same]

theorem updPort_port (f : Client → Client) : (s.updPort p f).ports[p] = f s.ports[p] := upd_same _ _ _

/-! ### Transactions (R165, R167, R171) -/

/-- The end of a response on a change of the port: a pending reset is pending no longer and due. -/
theorem responseEnds_updPort (f : Client → Client) (kept : ∀ c, (f c).resetPending = c.resetPending) :
    (s.updPort p f).responseEnds p = { s.updPort p (fun c => { f c with resetPending := false }) with
      work := s.work ++ if s.ports[p].resetPending then [.portResetTaken p] else [] } := by
  unfold State.responseEnds
  rw [updPort_port, kept]
  split_ifs with pending
  · rw [updPort_updPort]
    rfl
  · have same : s.updPort p f = s.updPort p fun c => { f c with resetPending := false } := updPort_congr <| by
      rw [Bool.not_eq_true, ← kept] at pending
      rw [← pending]
    rw [List.append_nil, ← same]
    rfl

theorem endResponse_eq : s.endResponse p
    = { s.updPort p (fun c => { c with rx := .trailing, response := [], resetPending := false }) with
        work := s.work ++ if s.ports[p].resetPending then [.portResetTaken p] else [] } :=
  responseEnds_updPort _ fun _ => rfl

theorem closeTransaction_eq (clocked : Bool) : s.closeTransaction p clocked
    = { s.updPort p (fun c =>
          { c with csLow := false, rx := .closed, response := [], resetPending := false
                   frameErrors := if c.rx = .command ∧ clocked then satInc c.frameErrors else c.frameErrors }) with
        work := s.work ++ if s.ports[p].resetPending then [.portResetTaken p] else [] } :=
  responseEnds_updPort _ fun _ => rfl

theorem openTransaction_of_ready (active : s.active = true) (high : s.ports[p].rstLow = false) :
    s.openTransaction p = s.updPort p fun c => { c with csLow := true, rx := .command } := by
  rw [State.openTransaction, active, high]
  rfl

theorem openTransaction_of_reset (h : s.active = false ∨ s.ports[p].rstLow = true) :
    s.openTransaction p = s.updPort p fun c => { c with csLow := true } := by
  have closed : (s.active && !s.ports[p].rstLow) = false := by
    rcases h with h | h <;> rw [h]
    · rfl
    · exact Bool.and_false _
  rw [State.openTransaction, closed]
  rfl

/-- Settles O11. -/
theorem transactionMoves : Obligations.TransactionMoves := by
  intro p clocked s
  have falls : exec (.pncsFall p) s
      = .next (if s.settle.ports[p].csLow then s.settle else s.settle.openTransaction p) := rfl
  have rises : exec (.pncsRise p clocked) s
      = .next (if s.settle.ports[p].csLow then s.settle.closeTransaction p clocked else s.settle) := rfl
  have ends : exec (.lastResponseByteSent p) s = .next (
      if s.settle.active && s.settle.ports[p].rx == .response then s.settle.endResponse p else s.settle) := rfl
  refine ⟨fun high active ready => ?_, fun high reset => ?_, fun receiving => ?_, fun active sending => ?_, fun low => ?_⟩
  · rw [falls, high, if_neg Bool.false_ne_true, openTransaction_of_ready active ready]
  · rw [falls, high, if_neg Bool.false_ne_true, openTransaction_of_reset reset]
  · exact exec_answered (c := .portReset p []) rfl receiving rfl rfl
  · rw [ends, if_pos (by rw [active, sending]; rfl), endResponse_eq, State.settle_work, List.nil_append]
  · rw [rises, if_pos low, closeTransaction_eq, State.settle_work, List.nil_append]

/-! ### Frames that carry out no command (R164 to R166) -/

theorem exec_argumentLengthOver24 (p : Port) (code length : Byte) (s : State) :
    exec (.argumentLengthOver24 p code length) s = .next (
      if s.settle.receiving p && decide (Config.maxArguments < length.toNat) then s.settle.overlong p else s.settle) := rfl

/-- Settles O12. -/
theorem closedPortTakesNoFrame : Obligations.ClosedPortTakesNoFrame := by
  intro p s closed
  refine ⟨fun row there args => ?_, fun code args => ?_, fun code check args => ?_,
    fun code length => ?_⟩
  · obtain ⟨body, request⟩ := requestOf_frames there p args
    rw [exec_of_request request]
    exact takeFrame_ignored _ _ closed
  · rw [exec_badCommand, takeFrame_ignored _ _ closed]
  · rw [exec_badFrame, takeFrame_ignored _ _ closed]
  · rw [exec_argumentLengthOver24, closed, Bool.false_and, if_neg Bool.false_ne_true]

/-- Settles O13. -/
theorem framesNotCarriedOut : Obligations.FramesNotCarriedOut := by
  intro p s receiving
  refine ⟨fun row there args short wrong => ?_, fun code args check short wrong => ?_, fun code args short unknown => ?_,
    fun code length long => ?_⟩
  · obtain ⟨body, request⟩ := requestOf_frames there p args
    rw [exec_of_request request]
    exact takeCommand_wrongLength body receiving wrong short
  · rw [exec_badFrame, takeFrame_taken _ receiving short]
    exact congrArg Host.Outcome.next (if_neg wrong)
  · have codes : commandCodes = frames.map Prod.fst := rfl
    have absent : commandCodes.contains code = false := by
      rw [codes, List.contains_eq_any_beq, List.any_eq_false]
      intro known there
      obtain ⟨row, inFrames, rfl⟩ := List.mem_map.mp there
      simpa using (unknown row inFrames).symm
    rw [exec_badCommand, takeFrame_taken _ receiving short, absent, if_neg Bool.false_ne_true]
  · rw [exec_argumentLengthOver24, receiving, Bool.true_and, if_pos]
    · rfl
    · exact decide_eq_true long

/-! ### READ STATUS (R170) -/

theorem flagByte_eq (c : Client) : c.flagByte = BitVec.ofNat 8 (bit c.notice + 2 * bit c.capture + 4 * bit c.loss) := by
  unfold Client.flagByte Client.flagBits
  cases c.notice <;> cases c.capture <;> cases c.loss <;> rfl

theorem arg_single (a : Byte) : arg [a] 0 = a.toNat := rfl

/-- Settles O10. -/
theorem readStatusReports : Obligations.ReadStatusReports := by
  intro p option s receiving t c flags report
  have reports : statusReport p t = report := by
    have timebase : BitVec.ofNat 8 (timebaseCode t.timebase) = (match t.timebase with
        | .unset => 0
        | .held => 1
        | .running => 2 : Byte) := by cases t.timebase <;> rfl
    have reference : BitVec.ofNat 8 (refCode t.rdu.state) = (match t.rdu.state with
        | .off => 0
        | .searching => 1
        | .locked => 2
        | .holdover => 3 : Byte) := by cases t.rdu.state <;> rfl
    have requester : portByte (t.calRun.map CalRun.requester) = (match t.calRun with
        | some r => BitVec.ofNat 8 r.requester.val
        | none => 0xFF) := by cases t.calRun <;> rfl
    have mask : c.mask.setWidth 8 = BitVec.ofNat 8 c.mask.toNat := BitVec.eq_of_toNat_eq (by simp)
    have raised : c.flagByte = BitVec.ofNat 8 flags := flagByte_eq c
    simp only [statusReport, timebase, reference, requester]
    rw [raised, mask] <;> rfl
  have answered {a : Answer} (answer : readStatus p [option] t = a) :
      exec (.readStatus p [option]) s = .next (a.state.respond p a.status a.payload) :=
    exec_answered (c := .readStatus p [option]) rfl receiving rfl answer
  have one : option = 1 ↔ option.toNat = 1 := BitVec.toNat_inj.symm
  have zero : option = 0 ↔ option.toNat = 0 := BitVec.toNat_inj.symm
  have unfolded : readStatus p [option] t = if 1 < option.toNat then t.refuse .badArg
      else ⟨if option.toNat = 1 then t.updPort p Client.clearCounts else t, .ok, report⟩ := by
    rw [← reports]
    rfl
  split_ifs with none clear
  · rw [zero] at none
    exact answered (a := ⟨t, .ok, report⟩) (by rw [unfolded, if_neg (by omega), if_neg (by omega)])
  · rw [one] at clear
    exact answered (a := ⟨t.updPort p Client.clearCounts, .ok, report⟩) (by rw [unfolded, if_neg (by omega), if_pos clear])
  · rw [zero] at none
    rw [one] at clear
    exact answered (a := t.refuse .badArg) (by rw [unfolded, if_pos (by omega)])

end Sys2Proof.Machine
end

section
/-! SUPPORT. Notices: the storing at a port, TAKE NOTICES and SET ATTENTION; and the levels the board sees (R106, R155 to R165). -/

namespace Sys2Proof.Machine

open Sys2Proof.Safety

variable {s : State} {p : Port} {c : Client}

/-! ### Storing a notice (R157 to R159) -/

theorem satInc_eq (x : BitVec 16) : satInc x = if x = 65535 then 65535 else x + 1 := by
  unfold satInc
  split_ifs with full
  · exact full
  · rfl

/-- Storing a notice is what the statements call offering it. -/
theorem store_eq_offered (c : Client) (n : Notice) : c.store n = offered c n := by
  unfold Client.store offered
  rw [satInc_eq]
  rfl

theorem store_of_reset (n : Notice) (reset : c.inReset = true) : c.store n = c := if_pos reset

theorem store_of_room (n : Notice) (up : c.inReset = false) (room : c.queue.length < 16) :
    c.store n = { c with queue := c.queue ++ [n], notice := true } := by
  rw [Client.store, up, if_neg Bool.false_ne_true]
  exact if_pos room

theorem store_of_full (n : Notice) (up : c.inReset = false) (full : 16 ≤ c.queue.length) :
    c.store n = { c with loss := true, lostNotices := if c.lostNotices = 65535 then 65535 else c.lostNotices + 1 } := by
  rw [Client.store, up, if_neg Bool.false_ne_true, ← satInc_eq]
  exact if_neg (Nat.not_lt.mpr full)

theorem offer_port (p : Port) (n : Notice) (s : State) : (s.offer p n).ports[p] = s.ports[p].store n := upd_same _ _ _

theorem offer_port_other {p q : Port} (n : Notice) (s : State) (ne : q ≠ p) : (s.offer p n).ports[q] = s.ports[q] :=
  upd_other _ _ ne.symm

theorem broadcast_port (p : Port) (n : Notice) (s : State) : (s.broadcast n).ports[p] = s.ports[p].store n :=
  each_get _ _ p

/-! ### What the board sees (R106, R162, R164, R165) -/

/-- Attention is asserted when a flag is set whose bit is set in the mask. -/
theorem wantsAttention_iff (c : Client) : c.wantsAttention = true
    ↔ (c.notice = true ∧ c.mask.getLsbD 0 = true) ∨ (c.capture = true ∧ c.mask.getLsbD 1 = true)
      ∨ (c.loss = true ∧ c.mask.getLsbD 2 = true) := by
  unfold Client.wantsAttention Client.flagBits
  generalize c.mask = mask
  cases c.notice <;> cases c.capture <;> cases c.loss <;> revert mask <;> decide

theorem active_vddm (h : s.active = true) : s.vddm = true := by
  simp only [State.active, Bool.and_eq_true] at h
  exact h.1.1

/-- Settles O53. -/
theorem noticesAndPins : Obligations.NoticesAndPins := by
  constructor
  · intro p n s c
    refine ⟨fun q ne => offer_port_other n s ne, ?_, fun reset => ?_, fun up room => ?_, fun up full => ?_⟩
    · rw [broadcast_port, offer_port]
    · rw [offer_port, store_of_reset n reset]
    · rw [offer_port, store_of_room n up room]
    · rw [offer_port, store_of_full n up full]
  intro p l s c asserted
  refine ⟨fun unpowered => ?_, fun powered down => ?_, fun active => ?_, fun high => ?_, fun active low ready sending => ?_,
    fun powered low silent => ?_⟩
  · simp [State.attn, State.pinOut, State.sdo, unpowered]
  · simp [State.attn, State.pinOut, powered, down]
  · have powered := active_vddm active
    have attn : s.attn p = some !c.wantsAttention := by
      rw [State.attn, powered, active]
      rfl
    refine ⟨?_, fun asked => ?_, fun calm => ?_⟩
    · rw [State.pinOut, powered, active]
      rfl
    · rw [attn, (wantsAttention_iff c).mpr asked]
      rfl
    · rw [attn, Bool.eq_false_iff.mpr fun wants => calm ((wantsAttention_iff c).mp wants)]
      rfl
  · rw [State.sdo, if_neg]
    change ¬(s.vddm && c.csLow) = true
    simp [high]
  · have frame : (s.active && !c.rstLow && c.rx == .response) = true := by simp [active, ready, sending]
    rw [State.sdo, if_pos, if_pos frame]
    change (s.vddm && c.csLow) = true
    simp [active_vddm active, low]
  · have ones : ¬(s.active && !c.rstLow && c.rx == .response) = true := by
      rcases silent with quiet | reset
      · simp [quiet]
      · simp [reset]
    rw [State.sdo, if_pos, if_neg ones]
    change (s.vddm && c.csLow) = true
    simp [powered, low]

/-! ### TAKE NOTICES and SET ATTENTION (R160, R162) -/

/-- The sixteen bytes of a notice as the statement lists them. -/
theorem noticeBytes_eq (n : Notice) : noticeBytes n =
    [(match n.kind with
      | .fired => 0
      | .firedLate => 1
      | .dropped => 2
      | .waveDone => 3
      | .granted => 4
      | .calDone => 5
      | .timeChanged => 6
      | .refState => 7 : Byte), BitVec.ofNat 8 (bit n.handle.isSome + 2 * bit n.tag.isSome)]
    ++ (match n.handle with
        | some h => [h.gen, BitVec.ofNat 8 h.slot.val]
        | none => [0, 0])
    ++ (match n.tag with
        | some x => bytes 2 x.toNat
        | none => [0, 0])
    ++ timeBytes n.time ++ bytes 3 n.detail.toNat := by
  have kind : BitVec.ofNat 8 (noticeCode n.kind) = (match n.kind with
      | .fired => 0
      | .firedLate => 1
      | .dropped => 2
      | .waveDone => 3
      | .granted => 4
      | .calDone => 5
      | .timeChanged => 6
      | .refState => 7 : Byte) := by cases n.kind <;> rfl
  have tag : bytes 2 (n.tag.getD 0).toNat = (match n.tag with
      | some x => bytes 2 x.toNat
      | none => [0, 0]) := by
    cases n.tag with
    | none => simp
    | some x => rfl
  rw [noticeBytes, kind, tag]
  rfl

theorem takeNotices_of_bad {args : List Byte} (bad : arg args 0 = 0 ∨ 4 < arg args 0) :
    takeNotices p args s = s.refuse .badArg := if_pos bad

theorem takeNotices_of_good {args : List Byte} {out rest : List Notice} (least : 1 ≤ arg args 0) (most : arg args 0 ≤ 4)
    (front : s.ports[p].queue.take (arg args 0) = out) (back : s.ports[p].queue.drop (arg args 0) = rest) :
    takeNotices p args s = (s.updPort p fun c => { c with queue := rest, notice := decide (rest ≠ []) }).ok
      ([BitVec.ofNat 8 out.length, BitVec.ofNat 8 rest.length,
        BitVec.ofNat 8 (bit (decide (rest ≠ [])) + 2 * bit s.ports[p].capture + 4 * bit s.ports[p].loss)]
        ++ out.flatMap noticeBytes) := by
  have good : ¬(arg args 0 = 0 ∨ 4 < arg args 0) := by omega
  have nonempty : (!rest.isEmpty) = decide (rest ≠ []) := by cases rest <;> rfl
  have same : (s.updPort p fun c => { c with queue := c.queue.drop (arg args 0), notice := !(c.queue.drop (arg args 0)).isEmpty })
      = s.updPort p fun c => { c with queue := rest, notice := decide (rest ≠ []) } :=
    updPort_congr (by rw [back, nonempty])
  unfold takeNotices
  dsimp only
  rw [if_neg good, front, same, updPort_port, flagByte_eq]

theorem setAttention_of_bad {args : List Byte} (bad : 7 < arg args 0) : setAttention p args s = s.refuse .badArg :=
  if_pos bad

theorem setAttention_of_good {args : List Byte} (good : arg args 0 ≤ 7) :
    setAttention p args s = (s.updPort p fun c => { c with mask := BitVec.ofNat 3 (arg args 0) }).ok
      [BitVec.ofNat 8 (bit s.ports[p].notice + 2 * bit s.ports[p].capture + 4 * bit s.ports[p].loss)] := by
  unfold setAttention
  rw [if_neg (Nat.not_lt.mpr good)]
  dsimp only
  rw [updPort_port, flagByte_eq]

/-- Settles O52. -/
theorem noticeCommands : Obligations.NoticeCommands := by
  intro p a s receiving t c
  have taken {x : Answer} (answer : takeNotices p [a] t = x) :
      exec (.takeNotices p [a]) s = .next (x.state.respond p x.status x.payload) :=
    exec_answered (c := .takeNotices p [a]) rfl receiving rfl answer
  have attended {x : Answer} (answer : setAttention p [a] t = x) :
      exec (.setAttention p [a]) s = .next (x.state.respond p x.status x.payload) :=
    exec_answered (c := .setAttention p [a]) rfl receiving rfl answer
  refine ⟨fun bad => ?_, fun least most => ?_, fun bad => ?_, fun good => ?_⟩
  · rw [← BitVec.toNat_inj] at bad
    exact taken (takeNotices_of_bad bad)
  · intro out rest
    rw [taken (takeNotices_of_good (args := [a]) least most rfl rfl), funext noticeBytes_eq]
    rfl
  · exact attended (setAttention_of_bad bad)
  · rw [attended (setAttention_of_good (args := [a]) good)]
    rfl

end Sys2Proof.Machine
end

section
/-! SUPPORT. The timebase and the reference: the answers of their commands, the first check that refuses them, and their due
steps (R6 to R18, R24 to R37). -/

namespace Sys2Proof.Machine

open Sys2Proof.Safety

/-! ### READ TIME, HOLD, LOAD TIME and RUN (R7 to R10) -/

/-- Settles O15. -/
theorem readTimeAnswers : Obligations.ReadTimeAnswers := by
  intro p s receiving
  rw [exec_answered (c := .readTime p []) rfl receiving rfl rfl]
  have code : BitVec.ofNat 8 (timebaseCode s.settle.timebase) = (match s.settle.timebase with
      | .unset => 0
      | .held => 1
      | .running => 2 : Byte) := by cases s.settle.timebase <;> rfl
  simp only [readTime, code]
  rfl

/-- Settles O16: HOLD is the cancelled slew, the reference turned off and the aborted run, each with its notice. -/
theorem holdStops : Obligations.HoldStops := by
  intro p s receiving mine running t held slewed off aborted
  have slew : held.cancelSlew = slewed := by
    by_cases still : t.slew = 0
    · rw [cancelSlew_of_still (s := held) still]
      exact (if_pos still).symm
    · rw [cancelSlew_of_moving (s := held) still]
      exact (if_neg still).symm
  have rdu : slewed.rdu = t.rdu := by rw [← slew]; unfold State.cancelSlew; split_ifs <;> rfl
  have time : slewed.time = t.time := by rw [← slew]; unfold State.cancelSlew; split_ifs <;> rfl
  have turned : slewed.turnRduOff = off := by
    by_cases idle : t.rdu.state = .off
    · rw [turnRduOff_of_off (s := slewed) (by rw [rdu, idle])]
      exact (if_pos idle).symm
    · have stopped : off = State.broadcast
          { slewed with rdu := { t.rdu with state := .off, crossingDue := false, credit := false } }
          (broadcastNotice .refState t.time 0) := if_neg idle
      rw [turnRduOff_of_on (s := slewed) (by rwa [rdu]), rdu, stopped, ← time]
      rfl
  have halted : t.halt = aborted := by
    rw [State.halt, slew, turned]
  have answer := hold_carriedOut (s := t) ((t.holds_iff p timeResource).mpr mine) (by rw [State.running, running]; rfl)
  rw [exec_answered (c := .hold p []) rfl receiving rfl answer, halted]
  rfl

/-- Settles O17. -/
theorem loadTimeLoads : Obligations.LoadTimeLoads := by
  intro p v s receiving mine stopped
  obtain ⟨value, good⟩ := timeField_timeBytes [] [] v
  rw [List.append_nil, List.nil_append] at value good
  have answer := loadTime_carriedOut (s := s.settle) (args := timeBytes v) good ((s.settle.holds_iff p timeResource).mpr mine)
    (by simpa [State.running] using stopped)
  rw [exec_answered (c := .loadTime p (timeBytes v)) rfl receiving (by simp [timeBytes, bytes_length]) answer]
  rw [show timeField (timeBytes v) 0 = v from value]
  rfl

/-- Settles O18. -/
theorem runResumes : Obligations.RunResumes := by
  intro p s receiving mine stopped t running searching resumed
  have answer := run_carriedOut (s := t) ((t.holds_iff p timeResource).mpr mine) stopped
  have started : (if t.rdu.enable then t.resume.refStateChanged .searching t.time else t.resume) = searching := by
    by_cases enable : t.rdu.enable = true
    · have on : searching = State.broadcast
          { running with rdu := { t.rdu with state := .searching, crossingDue := false, credit := false } }
          (broadcastNotice .refState t.time 1) := if_pos enable
      rw [if_pos enable, on, State.resume, if_pos enable]
      rfl
    · have off : searching = running := if_neg enable
      rw [if_neg enable, off, State.resume, if_neg enable]
  rw [exec_answered (c := .run p []) rfl receiving rfl answer, started]
  rfl

/-! ### SET TRIM and SLEW (R15, R16) -/

/-- Settles O19. -/
theorem trimAndSlewAreWritten : Obligations.TrimAndSlewAreWritten := by
  intro p v s receiving mine
  have holds := (s.settle.holds_iff p timeResource).mpr mine
  refine ⟨fun least most manual => ?_, fun least most moves running off still => ?_⟩
  · have value := signedField_signedBytes [] [] (n := 2) (x := v) (by omega) (by norm_num; omega) (by norm_num; omega)
    rw [List.append_nil, List.nil_append] at value
    change signedField (signedBytes 2 v) 0 2 = v at value
    have answer := setTrim_carriedOut (s := s.settle) (args := signedBytes 2 v) (by omega) holds manual
    rw [exec_answered (c := .setTrim p (signedBytes 2 v)) rfl receiving (bytes_length _ _) answer, value]
    rfl
  · have value := signedField_signedBytes [] [] (n := 3) (x := v) (by omega) (by norm_num; omega) (by norm_num; omega)
    rw [List.append_nil, List.nil_append] at value
    change signedField (signedBytes 3 v) 0 3 = v at value
    have answer := slew_carriedOut (s := s.settle) (args := signedBytes 3 v) (by omega) (by omega) holds
      (by rw [State.running, running]; rfl) off still
    rw [exec_answered (c := .slew p (signedBytes 3 v)) rfl receiving (bytes_length _ _) answer, value]
    rfl

/-- A window end publishes the sum and trims while LOCKED with auto-trim (R34, R35). -/
theorem windowEnd_eq (s : State) : s.windowEnd = { s with
    rdu := { s.rdu with lastSum := s.rdu.sum, sum := 0 }
    trim := if s.rdu.autoTrim = true ∧ s.rdu.state = .locked then clampTrim (s.trim - s.rdu.sum) else s.trim } := by
  unfold State.windowEnd
  simp only [Bool.and_eq_true, beq_iff_eq]
  split_ifs <;> rfl

/-- Settles O24. -/
theorem slewAndWindowEnd : Obligations.SlewAndWindowEnd := by
  intro s
  refine ⟨fun due => exec_due_alone (c := .slewDone) rfl due rfl rfl, fun due => ?_⟩
  rw [exec_due_alone (c := .windowEnd) rfl due rfl rfl, State.perform, windowEnd_eq]
  rfl

/-! ### SET REFERENCE (R36, R37) -/

/-- The settings byte of SET REFERENCE. -/
theorem settingsByte (enable autoTrim : Bool) :
    (BitVec.ofNat 8 (bit enable + 2 * bit autoTrim)).toNat < 4
      ∧ (BitVec.ofNat 8 (bit enable + 2 * bit autoTrim)).toNat.testBit 0 = enable
      ∧ (BitVec.ofNat 8 (bit enable + 2 * bit autoTrim)).toNat.testBit 1 = autoTrim := by
  cases enable <;> cases autoTrim <;> decide

section

variable {s : State} {autoTrim : Bool} {wide narrow : Nat}

theorem withReference_off : s.withReference false autoTrim wide narrow = State.turnRduOff
    { s with rdu := { s.rdu with enable := false, autoTrim := autoTrim, wide := wide, narrow := narrow } } := by
  unfold State.withReference
  exact if_pos rfl

theorem withReference_search (idle : s.timebase = .running ∧ s.rdu.state = .off) :
    s.withReference true autoTrim wide narrow = State.refStateChanged { s with rdu := { s.rdu with
      state := .searching, crossingDue := false, credit := false, enable := true, autoTrim := autoTrim, wide := wide
      narrow := narrow } } .searching s.time := by
  unfold State.withReference
  dsimp only
  rw [if_neg Bool.noConfusion, if_pos idle]
  rfl

theorem withReference_stay (busy : ¬(s.timebase = .running ∧ s.rdu.state = .off)) :
    s.withReference true autoTrim wide narrow
      = { s with rdu := { s.rdu with enable := true, autoTrim := autoTrim, wide := wide, narrow := narrow } } := by
  unfold State.withReference
  dsimp only
  rw [if_neg Bool.noConfusion, if_neg busy]

end

/-- Settles O25. -/
theorem setReferenceWrites : Obligations.SetReferenceWrites := by
  intro p enable autoTrim wide narrow s receiving mine least ordered most free t r u
  obtain ⟨small, bit0, bit1⟩ := settingsByte enable autoTrim
  generalize BitVec.ofNat 8 (bit enable + 2 * bit autoTrim) = b at small bit0 bit1 ⊢
  have readWide : field ([b] ++ bytes 3 wide ++ bytes 3 narrow) 1 3 = wide := field_bytes [b] (bytes 3 narrow) (by omega)
  have readNarrow : field ([b] ++ bytes 3 wide ++ bytes 3 narrow) 4 3 = narrow := by
    have read := field_bytes ([b] ++ bytes 3 wide) [] (n := 3) (x := narrow) (by omega)
    rw [List.append_nil, List.length_append, bytes_length] at read
    exact read
  have readByte : arg ([b] ++ bytes 3 wide ++ bytes 3 narrow) 0 = b.toNat := rfl
  generalize args : [b] ++ bytes 3 wide ++ bytes 3 narrow = given at readWide readNarrow readByte
  have length : given.length = 7 := by simp [← args, bytes_length]
  have good : referenceArgsOk given = true := by
    rw [referenceArgsOk]
    refine decide_eq_true ?_
    rw [readWide, readNarrow, readByte]
    exact ⟨small, least.trans ordered, most, least, ordered.trans most, ordered⟩
  have answer := setReference_carriedOut (s := t) good ((t.holds_iff p timeResource).mpr mine) (by rw [readByte, bit0]; exact free)
  rw [readByte, bit0, bit1, readWide, readNarrow] at answer
  have written : t.withReference enable autoTrim wide narrow = u := by
    cases enable
    case false =>
      rw [withReference_off]
      by_cases off : t.rdu.state = .off
      · rw [turnRduOff_of_off (s := { t with rdu := r }) off]
        exact ((if_neg fun h => h.2 off).trans (if_neg fun h => Bool.false_ne_true h.1)).symm
      · rw [turnRduOff_of_on (s := { t with rdu := r }) off]
        exact (if_pos ⟨rfl, off⟩).symm
    case true =>
      have on : ¬(true = false ∧ t.rdu.state ≠ .off) := fun h => Bool.noConfusion h.1
      by_cases idle : t.timebase = .running ∧ t.rdu.state = .off
      · rw [withReference_search idle]
        exact ((if_neg on).trans (if_pos ⟨rfl, idle⟩)).symm
      · rw [withReference_stay idle]
        exact ((if_neg on).trans (if_neg fun h => idle h.2)).symm
  rw [exec_answered (c := .setReference p given) rfl receiving length answer, written]
  rfl

/-! ### The checks that refuse (R6, R36) -/

/-- A command behind a list of checks: refused with the status of the first that fails, carried out when none does. -/
def State.checked (s : State) : List (Bool × Status) → Answer → Answer
  | [], a => a
  | (fails, st) :: rest, a => if fails then s.refuse st else s.checked rest a

/-- The first check that fails gives the status. -/
theorem checked_of_firstFailing {s : State} {checks : List (Bool × Status)} {st : Status} (a : Answer)
    (h : firstFailing checks = some st) : s.checked checks a = s.refuse st := by
  induction checks with
  | nil => cases h
  | cons check rest ih =>
    obtain ⟨fails, own⟩ := check
    unfold firstFailing at h
    unfold State.checked
    split_ifs at h ⊢
    · cases h
      rfl
    · exact ih h

section

variable (p : Port) (args : List Byte) (s : State)

/-! Each command stands behind the checks of R6 and R36, in their order. -/

theorem hold_checked : ∃ a, hold p s = s.checked (timeChecks s p args (.hold p args)) a := ⟨_, rfl⟩

theorem run_checked : ∃ a, run p s = s.checked (timeChecks s p args (.run p args)) a := by
  unfold run timeChecks
  simp only [State.checked, bne_iff_ne]
  exact ⟨_, rfl⟩

theorem loadTime_checked : ∃ a, loadTime p args s = s.checked (timeChecks s p args (.loadTime p args)) a := by
  have bad : (!timeFieldOk args 0) = decide (2 ^ 20 ≤ field args 4 3) := by
    rw [timeFieldOk, ← decide_not, Bool.decide_congr Nat.not_lt]
  unfold loadTime timeChecks
  rw [bad]
  exact ⟨_, rfl⟩

theorem setTrim_checked : ∃ a, setTrim p args s = s.checked (timeChecks s p args (.setTrim p args)) a := by
  unfold setTrim timeChecks
  simp only [State.checked, decide_eq_true_eq]
  exact ⟨_, rfl⟩

theorem slew_checked : ∃ a, slew p args s = s.checked (timeChecks s p args (.slew p args)) a := by
  have stopped : (s.timebase != .running) = !s.running := rfl
  unfold slew timeChecks
  rw [stopped]
  simp only [State.checked, decide_eq_true_eq, bne_iff_ne]
  exact ⟨_, rfl⟩

theorem setReference_checked : ∃ a, setReference p args s = s.checked (timeChecks s p args (.setReference p args)) a := by
  have bad : (!referenceArgsOk args) = decide (4 ≤ arg args 0 ∨ field args 1 3 < 16 ∨ 524287 < field args 1 3
      ∨ field args 4 3 < 16 ∨ 524287 < field args 4 3 ∨ field args 1 3 < field args 4 3) := by
    rw [referenceArgsOk, ← decide_not, decide_eq_decide]
    simp only [Config.minWindow, Config.maxWindow]
    omega
  unfold setReference timeChecks
  rw [bad]
  simp only [State.checked, Bool.and_eq_true, bne_iff_ne]
  exact ⟨_, rfl⟩

end

/-- Settles O20. -/
theorem timeChecksRefuse : Obligations.TimeChecksRefuse := by
  intro p args st s receiving row there length failing
  have refuses {c : Instr} {q : Request} (request : requestOf c = some q) (port : q.port = p)
      (fits : q.args.length = q.length)
      (behind : ∃ a, q.body s.settle = s.settle.checked (timeChecks s.settle p args c) a)
      (fails : firstFailing (timeChecks s.settle p args c) = some st) :
      exec c s = .next (s.settle.respond p st []) := by
    subst port
    obtain ⟨a, body⟩ := behind
    rw [exec_answered request receiving fits (body.trans (checked_of_firstFailing a fails))]
    rfl
  simp only [List.mem_cons, List.not_mem_nil, or_false] at there
  rcases there with rfl | rfl | rfl | rfl | rfl | rfl
  · exact refuses rfl rfl length (hold_checked p args _) failing
  · exact refuses rfl rfl length (loadTime_checked p args _) failing
  · exact refuses rfl rfl length (run_checked p args _) failing
  · exact refuses rfl rfl length (setTrim_checked p args _) failing
  · exact refuses rfl rfl length (slew_checked p args _) failing
  · exact refuses rfl rfl length (setReference_checked p args _) failing

/-! ### The offset of an edge (R24) -/

/-- Settles O26. -/
theorem offsetIsNearest : Obligations.OffsetIsNearest := by
  intro t
  have small : t.toNat % 2 ^ 20 < 2 ^ 20 := Nat.mod_lt _ (by norm_num)
  unfold offsetOf fraction
  refine ⟨fun low => if_pos low, fun high => if_neg (Nat.not_lt.mpr high), ?_, ?_⟩ <;> split_ifs <;> omega

/-! ### REFP edges and crossings (R23, R26 to R32) -/

/-- With the end of a run still to be judged, no run is ending. -/
theorem runEnding_of_judging {s : State} (judging : Event.calRunEnd ∈ s.work → Event.calStepJudged ∈ s.work) :
    s.runEnding = false := by
  unfold State.runEnding
  by_cases due : Event.calRunEnd ∈ s.work
  · simp [judging due]
  · simp [due]

/-- Settles O27. -/
theorem refpEdgeHandled : Obligations.RefpEdgeHandled := by
  intro s due first judging off w now r a checked summed
  have taken : exec .refpEdge s = .next w.refpEdge :=
    exec_due (c := .refpEdge) rfl due (by simpa [stepsBefore] using first) fun _ => runEnding_of_judging judging
  refine ⟨fun searching near => ?_, fun locked near => ?_, fun holdover near => ?_, fun idle => ?_, fun on far => ?_⟩
  · rw [taken, refpEdge_of_acquiring w searching near]
    rfl
  · rw [taken, refpEdge_of_locked w locked near]
    rfl
  · rw [taken, refpEdge_of_holdover w holdover near]
    rfl
  · rw [taken, refpEdge_of_off w idle]
  · rw [taken, refpEdge_of_stray w on far]
    rfl

/-- Settles O28. -/
theorem crossingChecksCredit : Obligations.CrossingChecksCredit := by
  intro s due w r
  have taken : exec .crossing s = .next w.crossing := exec_due_alone (c := .crossing) rfl due rfl rfl
  have uncredited (spent : s.rdu.credit = false) : r = { s.rdu with crossingDue := false } :=
    congrArg (fun b => { s.rdu with crossingDue := false, credit := b }) spent.symm
  refine ⟨fun idle => ?_, fun active credit => ?_, fun locked spent => ?_, fun holdover spent few => ?_,
    fun holdover spent last => ?_⟩
  · rw [taken, crossing_of_idle (s := w) idle]
    rfl
  · rw [taken, crossing_of_credit (s := w) active credit]
    rfl
  · rw [taken, crossing_of_first_miss (s := w) locked spent, uncredited spent]
    rfl
  · rw [taken, crossing_of_miss (s := w) holdover spent few, uncredited spent]
    rfl
  · rw [taken, crossing_of_last_miss (s := w) holdover spent (Nat.le_of_eq last.symm)]
    rfl

end Sys2Proof.Machine
end

section
/-! SUPPORT. Lines and the engine: delivered actions, timer steps, the steps of a calibration run, its start, its end and its
abort (R109 to R121, R144 to R152). -/

namespace Sys2Proof.Machine

open Sys2Proof.Safety

variable {s : State}

/-! ### The abort of a run (R150, R152) -/

theorem abortCalibration_of_idle (reason : AbortReason) (idle : s.calRun = none) : s.abortCalibration reason = s := by
  rw [State.abortCalibration, idle]

/-- What an abort makes of a run, the notice apart. -/
theorem abortCalibration_of_portReset {c : CalRun} (run : s.calRun = some c) :
    s.abortCalibration .portReset = s.finishRun c c.savedDelay (c.record .aborted (some .portReset)) := by
  rw [State.abortCalibration, run]
  exact if_pos rfl

theorem abortCalibration_of_other {c : CalRun} {reason : AbortReason} (run : s.calRun = some c) (other : reason ≠ .portReset) :
    s.abortCalibration reason = (s.finishRun c c.savedDelay (c.record .aborted (some reason))).offer c.requester
      (plainNotice .calDone s.time (calDetail (c.record .aborted (some reason)))) := by
  rw [State.abortCalibration, run]
  exact if_neg other

/-- Settles O51. -/
theorem abortRestores : Obligations.AbortRestores := by
  refine ⟨fun reason s => abortCalibration_of_idle reason, ?_⟩
  intro c reason s run step code u
  refine ⟨?_, fun other => ?_⟩
  · rintro rfl
    exact abortCalibration_of_portReset run
  · have steps (k : Option Phase) : step k = stepNumber k := by cases k <;> rfl
    have codes : code = reasonCode (some reason) := by cases reason <;> rfl
    rw [abortCalibration_of_other run other, steps, steps, codes]
    rfl

/-! ### The steps of the engine (R146 to R149) -/

/-- The end of a run whose step 15 has been judged. -/
theorem calRunEnd_of_run {c : CalRun} (run : s.calRun = some c) :
    s.calRunEnd = (s.finishRun c (judgeMask c.passMask c.savedDelay).2
        (c.record (judgeMask c.passMask c.savedDelay).1 none)).offer c.requester
      (plainNotice .calDone s.tickTime (calDetail (c.record (judgeMask c.passMask c.savedDelay).1 none))) := by
  rw [State.calRunEnd, run]

/-- A step passes when all four trials did (R147). -/
theorem allPassed_iff (c : CalRun) : c.trials.toList.all (· == some true) = true ↔ ∀ k : Fin 4, c.trials[k] = some true := by
  simp [Vector.all_toList, Fin.forall_iff]

/-- Settles O50. -/
theorem engineStepsAct : Obligations.EngineStepsAct := by
  intro c s run w ch
  refine ⟨fun due => ?_, fun due => ?_, fun due => ?_, fun due => ?_, fun due => ?_, fun due judged => ?_⟩
  · rw [exec_due_alone (c := .calStepStart) rfl due rfl rfl, State.perform, State.calStepStart, State.dropWork_calRun, run]
    rfl
  · rw [exec_due_alone (c := .calLeadingEdge) rfl due rfl rfl, State.perform, State.calLeadingEdge, State.dropWork_calRun, run]
  · rw [exec_due_alone (c := .calTrailingEdge) rfl due rfl rfl, State.perform, State.calTrailingEdge, State.dropWork_calRun,
      run]
  · have differ : (ch.prevSample != ch.sample) = decide (ch.sample ≠ ch.prevSample) := by
      cases ch.prevSample <;> cases ch.sample <;> rfl
    rw [exec_due_alone (c := .calTrialJudged) rfl due rfl rfl, State.perform, State.calTrialJudged, State.dropWork_calRun,
      run, ← differ]
    rfl
  · rw [exec_due_alone (c := .calStepJudged) rfl due rfl rfl, State.perform, State.calStepJudged, State.dropWork_calRun, run]
    simp only [← allPassed_iff]
    rfl
  · intro result step code
    have steps (k : Option Phase) : step k = stepNumber k := by cases k <;> rfl
    have codes : code = outcomeCode result.1 := by
      simp only [code]
      cases result.1 <;> rfl
    have detail : calDetail (c.record result.1 none)
        = code * 2 ^ 20 + step (lowestStep c.passMask) * 2 ^ 8 + step (highestStep c.passMask) := by
      rw [steps, steps, codes, calDetail, CalRun.record, reasonCode, Nat.zero_mul, Nat.add_zero]
    have first : ∀ d ∈ stepsBefore .calRunEnd, d ∉ s.work := by simpa [stepsBefore] using judged
    rw [exec_due (c := .calRunEnd) rfl due first nofun, ← detail, State.perform, calRunEnd_of_run (s := w .calRunEnd) run]
    rfl

/-! ### CALIBRATE (R144, R145) -/

section

variable {p : Port} {args : List Byte} {l : Line} {i : Input}

theorem calibrate_of_bad (bad : 7 < arg args 0 ∨ 7 < arg args 1) : calibrate p args s = s.refuse .badArg := by
  unfold calibrate
  rcases bad with bad | bad
  · rw [indexField_of_ge (n := 8) (k := 0) bad]
  · rw [indexField_of_ge (n := 8) (k := 1) bad]
    cases indexField 8 args 0 <;> rfl

/-- The checks of R144 behind that of the arguments, in order. -/
theorem calibrate_of_good (line : arg args 0 = l.val) (input : arg args 1 = i.val) : calibrate p args s =
    if !(s.holds p (lineResource l) && s.holds p (inputResource i)) then s.refuse .notHolder
    else if !s.running then s.refuse .state
    else if s.calRun.isSome then s.refuse .busy
    else if s.lines[l].activity ≠ .steady then s.refuse .busy
    else (s.startRun p l i).ok [] := by
  rw [calibrate, indexField_of_lt l line, indexField_of_lt i input]

end

theorem indexByte_toNat {n : Nat} (k : Fin n) (small : n ≤ 256) : (BitVec.ofNat 8 k.val).toNat = k.val := by
  rw [BitVec.toNat_ofNat]
  omega

/-- Settles O48. -/
theorem calibrateStarts : Obligations.CalibrateStarts := by
  intro p s receiving t
  have sent {args : List Byte} {x : Answer} (two : args.length = 2) (answer : calibrate p args t = x) :
      exec (.calibrate p args) s = .next (x.state.respond p x.status x.payload) :=
    exec_answered (c := .calibrate p args) rfl receiving two answer
  refine ⟨fun a b bad => sent rfl (calibrate_of_bad (args := [a, b]) bad), ?_⟩
  intro l i answered mine
  have checks := calibrate_of_good (s := t) (p := p) (args := [BitVec.ofNat 8 l.val, BitVec.ofNat 8 i.val]) (l := l) (i := i)
    (indexByte_toNat l (by omega)) (indexByte_toNat i (by omega))
  have holds : (t.holds p (lineResource l) && t.holds p (inputResource i)) = true ↔ mine := by
    rw [Bool.and_eq_true, State.holds_iff, State.holds_iff]
  have live : t.running = true ↔ t.timebase = .running := beq_iff_eq
  have given {u : State} {x : Answer} (answer : calibrate p _ t = x) (u_eq : x.state.respond p x.status x.payload = u) :
      answered u := u_eq ▸ sent rfl answer
  refine ⟨fun not => ?_, fun own stopped => ?_, fun own running busy => ?_, fun own running idle steady => ?_⟩
  · rw [Bool.eq_false_iff.mpr (mt holds.mp not)] at checks
    exact given checks rfl
  · rw [holds.mpr own, Bool.eq_false_iff.mpr (mt live.mp stopped)] at checks
    exact given checks rfl
  · rw [holds.mpr own, live.mpr running] at checks
    rcases busy with runs | active
    · rw [Option.isSome_iff_ne_none.mpr runs] at checks
      exact given checks rfl
    · have answer : (if t.lines[l].activity ≠ .steady then t.refuse .busy else (t.startRun p l i).ok []) = t.refuse .busy :=
        if_pos active
      rw [answer] at checks
      exact given (checks.trans (ite_self _)) rfl
  · rw [holds.mpr own, live.mpr running, idle] at checks
    exact given (checks.trans (if_neg (not_not.mpr steady))) rfl

end Sys2Proof.Machine
end

section
/-! SUPPORT. Lines: delivered actions, the timer steps, CONFIGURE LINE, and the release cascade (R46, R48 to R51, R109 to R120,
R122). -/

namespace Sys2Proof.Machine

open Sys2Proof.Safety

variable {s : State}

/-! ### Changes of one line -/

theorem updLine_line (l : Line) (f : LineUnit → LineUnit) : (s.updLine l f).lines[l] = f s.lines[l] := upd_same _ _ _

theorem updLine_other {l k : Line} (f : LineUnit → LineUnit) (ne : k ≠ l) : (s.updLine l f).lines[k] = s.lines[k] :=
  upd_other _ _ ne.symm

theorem updLine_congr {l : Line} {f g : LineUnit → LineUnit} (same : f s.lines[l] = g s.lines[l]) :
    s.updLine l f = s.updLine l g := by
  rw [State.updLine, State.updLine, upd, upd, same]

/-! ### Aborting and delivering on a line (R48, R109) -/

theorem abortOn_of_off {l : Line} (r : AbortReason) (off : s.calibratesLine l = false) : s.abortOn l r = s := by
  rw [State.abortOn, off, if_neg Bool.false_ne_true]

theorem abortOn_of_on {l : Line} (r : AbortReason) (on : s.calibratesLine l = true) : s.abortOn l r = s.abortCalibration r :=
  if_pos on

/-- An abort changes the line of its run alone. -/
theorem abortCalibration_line (r : AbortReason) {c : CalRun} (run : s.calRun = some c) (k : Line) :
    (s.abortCalibration r).lines[k] = if c.line = k then
        { s.lines[k] with fineDelay := c.savedDelay, level := s.lines[k].idle, activity := .steady }
      else s.lines[k] := by
  have lines : (s.abortCalibration r).lines = upd s.lines c.line fun ln =>
      { ln with fineDelay := c.savedDelay, level := ln.idle, activity := .steady } := by
    rw [State.abortCalibration, run]
    dsimp only
    split_ifs <;> rfl
  rw [lines, upd_get]
  split_ifs with same
  · rw [same]
  · rfl

theorem abortOn_other {l k : Line} (r : AbortReason) (ne : k ≠ l) : (s.abortOn l r).lines[k] = s.lines[k] := by
  cases on : s.calibratesLine l with
  | false => rw [abortOn_of_off r on]
  | true =>
    obtain ⟨c, run, rfl⟩ := calibratesLine_iff.mp on
    rw [abortOn_of_on r on, abortCalibration_line r run, if_neg ne.symm]

theorem abortOn_calRun (l : Line) (r : AbortReason) :
    (s.abortOn l r).calRun = if s.calibratesLine l then none else s.calRun := by
  unfold State.abortOn
  split_ifs
  · exact abortCalibration_calRun s r
  · rfl

theorem cancelTimer_lines (l : Line) : (s.cancelTimer l).lines = upd s.lines l fun ln =>
    { ln with activity := match ln.activity with
                          | .calibrating => .calibrating
                          | _ => .steady } := rfl

/-- An action sets the activity whatever it was. -/
theorem act_of_cancelled (ln : LineUnit) (x y : Activity) (a : LineAction) :
    LineUnit.act { ln with activity := x } a = LineUnit.act { ln with activity := y } a := by
  cases a <;> rfl

theorem deliver_line (l : Line) (a : LineAction) :
    (s.deliver l a).lines[l] = LineUnit.act { (s.abortOn l .action).lines[l] with activity := .steady } a := by
  rw [State.deliver, updLine_line, cancelTimer_lines, upd_same]
  exact act_of_cancelled _ _ _ a

theorem deliver_other {l k : Line} (a : LineAction) (ne : k ≠ l) : (s.deliver l a).lines[k] = s.lines[k] := by
  rw [State.deliver, updLine_other _ ne, cancelTimer_lines, upd_other _ _ ne.symm, abortOn_other _ ne]

/-- No timer step of the line is due any more. -/
theorem not_mem_deliver_work {l : Line} {e : Event} (a : LineAction) (timer : isTimerStep l e = true) :
    e ∉ (s.deliver l a).work := by
  rw [State.deliver, State.updLine_work, State.cancelTimer_work]
  simp [timer]

/-- Settles O40. -/
theorem actionsAct : Obligations.ActionsAct := by
  intro l a s ln cancelled u
  obtain ⟨slots, gens, order⟩ := deliver_table s l a
  have kept := State.deliver_kept s l a
  refine ⟨?_, fun k ne => deliver_other a ne, abortOn_calRun l .action, slots, gens, order, kept.claims, kept.time,
    not_mem_deliver_work a (by simp [isTimerStep]), not_mem_deliver_work a (by simp [isTimerStep]),
    not_mem_deliver_work a (by simp [isTimerStep]), not_mem_deliver_work a (by simp [isTimerStep]), fun off => ?_⟩
  · have delivered : u.lines[l] = cancelled.act a := deliver_line l a
    rw [delivered]
    cases a <;> rfl
  · have same : u = (s.cancelTimer l).updLine l fun ln => ln.act a := by
      simp only [u, State.deliver, abortOn_of_off .action off]
    rw [same]
    exact ⟨rfl, rfl, rfl⟩

/-! ### Timer steps (R112, R114, R115) -/

section

variable {l : Line}

theorem pulseEnd_of_pulsing {r : Nat} (pulsing : s.lines[l].activity = .pulsing r) :
    s.pulseEnd l = s.updLine l fun ln => { ln with level := ln.idle, activity := .steady } :=
  updLine_congr (by rw [pulsing])

variable {c : WaveCopy} (waving : s.lines[l].activity = .waving c)

include waving

theorem waveHighEnd_of_waving : s.waveHighEnd l = s.updLine l fun ln =>
    { ln with level := c.idle, activity := .waving { c with position := c.high } } :=
  updLine_congr (by rw [waving])

theorem waveCycleEnd_of_waving : s.waveCycleEnd l = s.updLine l fun ln =>
    { ln with level := !c.idle, activity := .waving { c with left := Count.less 1 c.left, position := 0 } } :=
  updLine_congr (by rw [waving])

theorem waveCompletion_of_silent (silent : s.lines[l].waveDone = false) :
    s.waveCompletion l = s.updLine l fun ln => { ln with level := ln.idle, activity := .steady } := by
  rw [State.waveCompletion, waving, silent]

theorem waveCompletion_of_told {p : Port} (told : s.lines[l].waveDone = true)
    (held : s.claims[lineResource l].holder = some p) :
    s.waveCompletion l = (s.updLine l fun ln => { ln with level := ln.idle, activity := .steady }).offer p
      (plainNotice .waveDone s.tickTime l.val) := by
  rw [State.waveCompletion, waving, told, held]

end

/-- Settles O41. -/
theorem timerStepsMoveLines : Obligations.TimerStepsMoveLines := by
  intro l s w ln
  refine ⟨fun r pulsing due => ?_, fun c waving => ⟨fun due => ?_, fun due => ?_, fun due => ?_⟩⟩
  · rw [exec_due_alone (c := .pulseEnd l) rfl due rfl rfl, State.perform]
    rw [pulseEnd_of_pulsing (s := w (.pulseEnd l)) pulsing]
  · rw [exec_due_alone (c := .waveHighEnd l) rfl due rfl rfl, State.perform]
    rw [waveHighEnd_of_waving (s := w (.waveHighEnd l)) waving]
  · have less : Count.less 1 c.left = (match c.left with
        | .unlimited => .unlimited
        | .finite n => .finite (n - 1)) := by cases c.left <;> rfl
    rw [exec_due_alone (c := .waveCycleEnd l) rfl due rfl rfl, State.perform]
    rw [waveCycleEnd_of_waving (s := w (.waveCycleEnd l)) waving, less] <;> rfl
  · intro done
    have taken : exec (.waveCompletion l) s = .next ((w (.waveCompletion l)).waveCompletion l) :=
      exec_due_alone (c := .waveCompletion l) rfl due rfl rfl
    refine ⟨fun silent => ?_, fun p told held => ?_⟩
    · rw [taken, waveCompletion_of_silent (s := w (.waveCompletion l)) waving silent]
    · rw [taken, waveCompletion_of_told (s := w (.waveCompletion l)) waving told held]
      rfl

/-! ### CONFIGURE LINE (R119) -/

section

variable {p : Port} {args : List Byte}

theorem configureLine_of_bad (bad : 7 < arg args 0 ∨ lineArgsOk args = false) :
    configureLine p args s = s.refuse .badArg := by
  unfold configureLine
  cases line : indexField 8 args 0 with
  | none => rfl
  | some l =>
    rcases bad with bad | bad
    · rw [indexField_of_ge (n := 8) (k := 0) bad] at line
      cases line
    · rw [bad]
      rfl

/-- The checks of R119 behind that of the arguments, in order. -/
theorem configureLine_of_good {l : Line} (line : arg args 0 = l.val) (good : lineArgsOk args = true) :
    configureLine p args s = if !s.holds p (lineResource l) then s.refuse .notHolder
      else if s.lines[l].activity = .calibrating then s.refuse .busy
      else (s.updLine l fun ln => ln.configure args).ok [] := by
  rw [configureLine, indexField_of_lt l line, good]
  rfl

theorem lineArgsOk_iff : lineArgsOk args = true ↔ arg args 1 < 4 ∧ arg args 2 ≤ 15 ∧ 2 ≤ field args 3 3
    ∧ field args 3 3 ≤ 1048576 ∧ field args 6 3 ≠ 0 ∧ field args 6 3 < field args 3 3 :=
  decide_eq_true_iff

end

/-- Settles O39. -/
theorem configureLineWrites : Obligations.ConfigureLineWrites := by
  intro p s receiving
  have sent {args : List Byte} {x : Answer} (eleven : args.length = 11) (answer : configureLine p args s.settle = x) :
      exec (.configureLine p args) s = .next (x.state.respond p x.status x.payload) :=
    exec_answered (c := .configureLine p args) rfl receiving eleven answer
  refine ⟨fun args eleven bad => sent eleven (configureLine_of_bad ?_), ?_⟩
  · rw [← Bool.not_eq_true, lineArgsOk_iff]
    omega
  intro l idle done fine period high cycles least most some below few args t
  obtain ⟨small, bit0, bit1⟩ := settingsByte idle done
  have readLine : arg args 0 = l.val := indexByte_toNat l (by omega)
  have readFlags : arg args 1 = (BitVec.ofNat 8 (bit idle + 2 * bit done)).toNat := rfl
  have readFine : arg args 2 = fine.val := indexByte_toNat fine (by omega)
  have readPeriod : field args 3 3 = period := by
    have read := field_bytes [BitVec.ofNat 8 l.val, BitVec.ofNat 8 (bit idle + 2 * bit done), BitVec.ofNat 8 fine.val]
      (bytes 3 high ++ bytes 2 cycles) (n := 3) (x := period) (by omega)
    rw [← List.append_assoc] at read
    exact read
  have readHigh : field args 6 3 = high := by
    have read := field_bytes ([BitVec.ofNat 8 l.val, BitVec.ofNat 8 (bit idle + 2 * bit done), BitVec.ofNat 8 fine.val]
      ++ bytes 3 period) (bytes 2 cycles) (n := 3) (x := high) (by omega)
    rw [List.length_append, bytes_length] at read
    exact read
  have readCycles : field args 9 2 = cycles := by
    have read := field_bytes ([BitVec.ofNat 8 l.val, BitVec.ofNat 8 (bit idle + 2 * bit done), BitVec.ofNat 8 fine.val]
      ++ bytes 3 period ++ bytes 3 high) [] (n := 2) (x := cycles) (by omega)
    rw [List.append_nil, List.length_append, List.length_append, bytes_length, bytes_length] at read
    exact read
  have eleven : args.length = 11 := by simp [args, bytes_length]
  have good : lineArgsOk args = true := by
    rw [lineArgsOk_iff, readFlags, readFine, readPeriod, readHigh]
    exact ⟨small, by omega, least, most, some, below⟩
  have written : (t.updLine l fun ln => ln.configure args) = t.updLine l fun ln =>
      { ln with idle := idle, waveDone := done, fineDelay := fine, wavePeriod := period, waveHigh := high
                waveCycles := cycles } := updLine_congr <| by
    rw [LineUnit.configure, readFlags, bit0, bit1, readFine, readPeriod, readHigh, readCycles, Fin.ofNat_val_eq_self]
  have checks := configureLine_of_good (s := t) (p := p) readLine good
  rw [written] at checks
  have holds := t.holds_iff p (lineResource l)
  refine ⟨fun other => ?_, fun mine busy => ?_, fun mine ready => ?_⟩
  · rw [Bool.eq_false_iff.mpr (mt holds.mp other)] at checks
    rw [sent eleven checks]
    rfl
  · rw [holds.mpr mine] at checks
    rw [sent eleven (checks.trans (if_pos busy))]
    rfl
  · rw [holds.mpr mine] at checks
    rw [sent eleven (checks.trans (if_neg ready))]
    rfl

end Sys2Proof.Machine
end

section
/-! SUPPORT. Releases: what the cascade of a resource makes of the part, and what RELEASE answers (R46 to R53). -/

namespace Sys2Proof.Machine

open Sys2Proof.Safety

variable {s : State} {p : Port} {byReset : Bool}

/-! ### The cascade by the kind of the resource -/

theorem cascade_time : s.cascade byReset p timeResource = s := rfl

theorem cascadeCount_time : s.cascadeCount p timeResource = 0 := rfl

theorem cascade_input (i : Input) : s.cascade byReset p (inputResource i) = s.cascadeInput byReset p i := by
  have high : ¬(inputResource i).val < 8 := Nat.not_lt.mpr (Nat.le_add_left 8 i.val)
  have low : (inputResource i).val < 16 := Nat.add_lt_add_right i.isLt 8
  rw [State.cascade, dif_neg high, dif_pos low]
  exact congrArg (s.cascadeInput byReset p) (Fin.ext (Nat.add_sub_cancel i.val 8))

theorem cascadeCount_input (i : Input) : s.cascadeCount p (inputResource i) = 0 :=
  dif_neg (Nat.not_lt.mpr (Nat.le_add_left 8 i.val))

theorem cascade_line (l : Line) : s.cascade byReset p (lineResource l) = s.cascadeLine byReset p l := dif_pos l.isLt

theorem cascadeCount_line (l : Line) :
    s.cascadeCount p (lineResource l) = (s.slotsWhere fun e => e.isOn p l).length := dif_pos l.isLt

/-! ### The abort and the timer of a line -/

/-- An abort changes the lines, the filters, the results, the run and the queues alone. -/
theorem abortCalibration_frame (r : AbortReason) : s.abortCalibration r = { s with
    lines := (s.abortCalibration r).lines, inputs := (s.abortCalibration r).inputs
    results := (s.abortCalibration r).results, calRun := (s.abortCalibration r).calRun
    ports := (s.abortCalibration r).ports } := by
  unfold State.abortCalibration
  split
  · rfl
  · dsimp only
    split_ifs <;> rfl

theorem abortOn_frame (l : Line) (r : AbortReason) : s.abortOn l r = { s with
    lines := (s.abortOn l r).lines, inputs := (s.abortOn l r).inputs, results := (s.abortOn l r).results
    calRun := (s.abortOn l r).calRun, ports := (s.abortOn l r).ports } := by
  cases on : s.calibratesLine l with
  | false => rw [abortOn_of_off r on]
  | true =>
    rw [abortOn_of_on r on]
    exact abortCalibration_frame r

theorem abortOn_idle (l : Line) (r : AbortReason) : (s.abortOn l r).lines[l].idle = s.lines[l].idle := by
  cases on : s.calibratesLine l with
  | false => rw [abortOn_of_off r on]
  | true =>
    obtain ⟨c, run, rfl⟩ := calibratesLine_iff.mp on
    rw [abortOn_of_on r on, abortCalibration_line r run, if_pos rfl]

theorem calibratesLine_eq_any (s : State) (l : Line) : s.calibratesLine l = s.calRun.any fun c => c.line == l := by
  unfold State.calibratesLine
  cases s.calRun <;> rfl

theorem isTimerStep_eq (l : Line) (e : Event) :
    isTimerStep l e = decide (e ∈ [.pulseEnd l, .waveHighEnd l, .waveCycleEnd l, .waveCompletion l]) := by
  cases e <;> simp [isTimerStep, Bool.beq_eq_decide_eq]

/-- A line put to rest: its timer and its due step are gone, and it stands STEADY at its idle level. -/
theorem cancelTimer_rest (l : Line) :
    ((s.cancelTimer l).updLine l fun ln => { ln with level := ln.idle, activity := .steady })
      = { s with lines := upd s.lines l fun ln => { ln with level := ln.idle, activity := .steady }
                 work := s.work.filter fun e => !isTimerStep l e } := by
  have lines : upd (s.cancelTimer l).lines l (fun ln => { ln with level := ln.idle, activity := .steady })
      = upd s.lines l fun ln => { ln with level := ln.idle, activity := .steady } := table_ext fun k => by
    rw [cancelTimer_lines]
    by_cases same : l = k
    · subst same
      rw [upd_same, upd_same, upd_same]
    · rw [upd_other _ _ same, upd_other _ _ same, upd_other _ _ same]
  rw [State.updLine, lines]
  rfl

/-- The whole of the cascade of a line, from the state t after the abort. -/
theorem cascadeLine_eq {l : Line} {t : State} (aborted : s.abortOn l (releaseReason byReset p s) = t) :
    s.cascadeLine byReset p l = { t with
      lines := upd t.lines l fun ln => { ln with level := ln.idle, activity := .steady }
      slots := each t.slots fun _ x => if x.any (fun e => e.isOn p l) then none else x
      gens := each t.gens fun k g => if t.slots[k].any (fun e => e.isOn p l) then g + 1 else g
      dueOrder := t.dueOrder.filter fun k => !t.slots[k].any fun e => e.isOn p l
      work := t.work.filter fun e => !isTimerStep l e } := by
  rw [State.cascadeLine, aborted, cancelTimer_rest, removeWhere_eq]

/-- What an abort and the cascade after it leave, they leave together. -/
theorem cascade_frame {t u : State} {lines lines' : Vector LineUnit 8} {inputs : Vector Channel 8}
    {results : Vector CalResult 8} {run : Option CalRun} {ports : Vector Client 4} {slots : Vector (Option Entry) 64}
    {gens : Vector Byte 64} {order : List Slot} {work : List Event}
    (aborted : t = { s with lines := lines, inputs := inputs, results := results, calRun := run, ports := ports })
    (cascaded : u = { t with lines := lines', slots := slots, gens := gens, dueOrder := order, work := work }) :
    u = { s with
      lines := u.lines, slots := u.slots, gens := u.gens, dueOrder := u.dueOrder, work := u.work
      inputs := t.inputs, results := t.results, calRun := t.calRun, ports := t.ports } := by
  subst aborted cascaded
  rfl

theorem slotsWhere_eq (s : State) (f : Entry → Bool) : s.slotsWhere f = (List.finRange 64).filter fun k => s.slots[k].any f := by
  unfold State.slotsWhere
  congr 1
  funext k
  cases s.slots[k] <;> rfl

/-- Settles O31. -/
theorem cascadeCleansLine : Obligations.CascadeCleansLine := by
  intro p byReset s reason
  have reasons : releaseReason byReset p s = reason := rfl
  refine ⟨⟨cascade_time, cascadeCount_time⟩, fun i => ⟨cascadeCount_input i, fun other => ?_, fun c run same => ?_⟩, ?_⟩
  · rw [cascade_input, State.cascadeInput, if_neg]
    rw [diverted_iff]
    rintro ⟨c, run, same⟩
    exact other c run same
  · rw [cascade_input, State.cascadeInput, if_pos (diverted_iff.mpr ⟨c, run, same⟩), reasons]
  intro l u aborted gone
  have abort : s.abortOn l reason = aborted := by
    simp only [aborted, ← calibratesLine_eq_any]
    rfl
  have goneOn : gone = fun k => s.slots[k].any fun e => e.isOn p l := rfl
  have whole : u = _ := (cascade_line l).trans (cascadeLine_eq (reasons ▸ abort))
  obtain ⟨slots, gens, order⟩ := abort ▸ abortOn_table s l reason
  have work : aborted.work = s.work := abort ▸ State.abortOn_work s l reason
  have frame := abort ▸ abortOn_frame (s := s) l reason
  have lines : u.lines = upd aborted.lines l fun ln => { ln with level := ln.idle, activity := .steady } := by rw [whole]
  have uSlots (k : Slot) : u.slots[k] = if gone k then none else s.slots[k] := by
    rw [whole]
    dsimp only
    rw [each_get, slots]
    rfl
  have uGens (k : Slot) : u.gens[k] = if gone k then s.gens[k] + 1 else s.gens[k] := by
    rw [whole]
    dsimp only
    rw [each_get, slots, gens]
    rfl
  refine ⟨?_, fun k ne => ?_, fun k => ⟨fun leaves => ?_, fun stays => ?_⟩, ?_, ?_, ?_, ?_⟩
  · have idle : aborted.lines[l].idle = s.lines[l].idle := abort ▸ abortOn_idle l reason
    rw [lines, upd_same, ← idle]
  · rw [lines, upd_other _ _ ne.symm, ← abort, abortOn_other _ ne]
  · rw [uSlots, uGens, leaves]
    exact ⟨rfl, rfl⟩
  · rw [uSlots, uGens, stays]
    exact ⟨rfl, rfl⟩
  · rw [whole, goneOn]
    dsimp only
    rw [order, slots]
  · rw [whole]
    dsimp only
    rw [work]
    simp only [isTimerStep_eq]
  · exact cascade_frame frame whole
  · rw [cascadeCount_line, slotsWhere_eq, goneOn]

/-! ### RELEASE (R46, R47) -/

section

variable {args : List Byte} {r : Resource}

theorem release_of_bad (bad : 16 < arg args 0) : release p args s = s.refuse .badArg := by
  rw [release, indexField_of_ge (n := 17) (k := 0) bad]

theorem release_of_holder (byte : arg args 0 = r.val) (mine : s.claims[r].holder = some p) :
    release p args s = (s.giveUp false p r).ok
      [BitVec.ofNat 8 (s.cascadeCount p r), portByte (s.giveUp false p r).claims[r].holder] := by
  rw [release, indexField_of_lt r byte]
  exact if_pos mine

theorem release_of_waiter (byte : arg args 0 = r.val) (other : s.claims[r].holder ≠ some p)
    (waits : p ∈ s.claims[r].waiters) :
    release p args s = (s.updClaim r fun c => c.leave p).ok [0, portByte s.claims[r].holder] := by
  rw [release, indexField_of_lt r byte]
  exact (if_neg other).trans (if_pos (List.contains_iff_mem.mpr waits))

theorem release_of_other (byte : arg args 0 = r.val) (other : s.claims[r].holder ≠ some p)
    (absent : p ∉ s.claims[r].waiters) : release p args s = s.refuse .notHolder := by
  rw [release, indexField_of_lt r byte]
  exact (if_neg other).trans (if_neg (mt List.contains_iff_mem.mp absent))

end

theorem grant_of_free {r : Resource} (alone : s.claims[r].waiters = []) :
    s.grant r = s.updClaim r fun _ => { holder := none, waiters := [] } := by
  rw [State.grant, alone]

theorem grant_of_waiter {r : Resource} {w : Port} {rest : List Port} (first : s.claims[r].waiters = w :: rest) :
    s.grant r = (s.updClaim r fun _ => { holder := some w, waiters := rest }).offer w
      (plainNotice .granted s.time r.val) := by
  rw [State.grant, first]

/-- Settles O30. -/
theorem releaseGrants : Obligations.ReleaseGrants := by
  intro p s receiving
  have sent {a : Byte} {x : Answer} (answer : release p [a] s.settle = x) :
      exec (.release p [a]) s = .next (x.state.respond p x.status x.payload) :=
    exec_answered (c := .release p [a]) rfl receiving rfl answer
  refine ⟨fun a bad => sent (release_of_bad (args := [a]) bad), ?_⟩
  intro r t c u
  have byte : arg [BitVec.ofNat 8 r.val] 0 = r.val := indexByte_toNat r (by omega)
  have kept := keptByFiring_closed.cascade t false p r
  have waiters : u.claims[r].waiters = c.waiters := by rw [kept.claims]
  have time : u.time = t.time := kept.time
  refine ⟨fun mine alone => ?_, fun w rest mine first => ?_, fun h held other waits => ?_, fun other absent => ?_⟩
  · have given : t.giveUp false p r = _ := grant_of_free (waiters.trans alone)
    have holder : (t.giveUp false p r).claims[r].holder = none := by
      rw [given, State.updClaim_claims, upd_same]
    rw [sent (release_of_holder byte mine), holder, given]
    rfl
  · have given : t.giveUp false p r = _ := grant_of_waiter (waiters.trans first)
    have holder : (t.giveUp false p r).claims[r].holder = some w := by
      rw [given, State.offer_claims, State.updClaim_claims, upd_same]
    rw [sent (release_of_holder byte mine), holder, given, time]
    rfl
  · have notMine : t.claims[r].holder ≠ some p := fun mine => other (Option.some.inj (held.symm.trans mine))
    have holder : portByte t.claims[r].holder = BitVec.ofNat 8 h.val := congrArg portByte held
    rw [sent (release_of_waiter byte notMine waits), holder]
    rfl
  · rw [sent (release_of_other byte other absent)]
    rfl

end Sys2Proof.Machine
end

section
/-! SUPPORT. SCHEDULE: its refusals in the order of R67, and the entry that good arguments make (R58, R60 to R72). -/

namespace Sys2Proof.Machine

open Sys2Proof.Safety

variable {s : State} {p : Port} {args : List Byte}

/-! ### The entry that good arguments describe (11.7.3) -/

theorem lineArg_val (line : arg args 1 < 8) : (Fin.ofNat 8 (arg args 1) : Line).val = arg args 1 := Nat.mod_eq_of_lt line

/-- The line of the job: none for a MARK, the line argument otherwise (R62). -/
theorem jobArg_line (kind : arg args 0 ≤ 6) :
    (jobArg args).line = if arg args 0 = 6 then none else some (Fin.ofNat 8 (arg args 1)) := by
  unfold jobArg
  split <;> simp_all [Job.line]
  omega

/-- The claim check of SCHEDULE for good arguments (R70). -/
theorem mayUse_iff (good : scheduleArgsOk args = true) : s.mayUse p (jobArg args) = true
    ↔ arg args 0 = 6 ∨ ∀ l : Line, l.val = arg args 1 → s.claims[lineResource l].holder = some p := by
  obtain ⟨kind, ⟨-, line⟩, -⟩ := (scheduleArgsOk_spec args).mp good
  unfold State.mayUse
  rw [jobArg_line kind]
  split_ifs with mark
  · simp [mark]
  · have value := lineArg_val (line mark)
    simp only [mark, false_or, State.holds_iff]
    constructor
    · intro held l same
      rwa [show l = Fin.ofNat 8 (arg args 1) from Fin.ext (same.trans value.symm)]
    · intro all
      exact all _ value

/-- Good arguments describe their entry, field by field. -/
theorem entryArg_describedBy (p : Port) (good : scheduleArgsOk args = true) : DescribedBy (entryArg p args) p args := by
  obtain ⟨kind, ⟨-, line⟩, notify, -, -, -, -, ⟨armed, -⟩⟩ := (scheduleArgsOk_spec args).mp good
  refine ⟨rfl, ?_, ?_, ?_, rfl, ?_, rfl⟩
  · have value := lineArg_val (args := args)
    simp only [entryArg, jobArg]
    generalize arg args 0 = k at kind line ⊢
    interval_cases k <;> simp_all [widthArg]
  · simp only [entryArg, optArmed] at armed ⊢
    by_cases form : (arg args 2).testBit 0 = true
    · simp only [form, if_true]
      exact ⟨trivial, Fin.ofNat 8 (arg args 3), Nat.mod_eq_of_lt (armed form).1, rfl⟩
    · simp only [form]
      exact ⟨rfl, rfl⟩
  · simp only [entryArg, optRepeat]
    by_cases repeats : (arg args 2).testBit 4 = true
    · simp only [repeats, if_true]
      exact ⟨rfl, rfl⟩
    · simp only [repeats]
      exact ⟨rfl, rfl⟩
  · rfl

theorem isPast_iff {now : TimeValue} : (entryArg p args).isPast now = true
    ↔ (arg args 2).testBit 0 = false ∧ (arg args 2).testBit 1 = false ∧ (timeField args 4).toNat + 1 < now.toNat := by
  unfold Entry.isPast entryArg optArmed
  cases (arg args 2).testBit 0 <;> cases (arg args 2).testBit 1 <;> simp [overdue]

/-! ### The lowest empty slot (R58) -/

theorem freeSlot_of_full (full : ∀ k : Slot, s.slots[k] ≠ none) : s.freeSlot = none := by
  unfold State.freeSlot
  rw [List.find?_eq_none]
  exact fun k _ empty => full k (Option.isNone_iff_eq_none.mp empty)

theorem freeSlot_isSome {k : Slot} (empty : s.slots[k] = none) : ∃ j, s.freeSlot = some j := by
  unfold State.freeSlot
  rw [← Option.isSome_iff_exists, List.find?_isSome]
  exact ⟨k, List.mem_finRange k, by rw [empty]; rfl⟩

theorem freeSlot_of_lowest {k : Slot} (empty : s.slots[k] = none) (lowest : ∀ j : Slot, j < k → s.slots[j] ≠ none) :
    s.freeSlot = some k := by
  obtain ⟨j, found⟩ := freeSlot_isSome empty
  rw [found]
  obtain ⟨emptyJ, before, behind, all, fullBefore⟩ := List.find?_eq_some_iff_append.mp found
  have sorted := List.pairwise_lt_finRange 64
  have there := List.mem_finRange k
  rw [all, List.mem_append, List.mem_cons] at there
  rcases there with there | rfl | there
  · have full := fullBefore k there
    rw [empty] at full
    cases full
  · rfl
  · rw [all, List.pairwise_append, List.pairwise_cons] at sorted
    obtain ⟨-, ⟨least, -⟩, -⟩ := sorted
    exact absurd (Option.isNone_iff_eq_none.mp emptyJ) (lowest j (least k there))

/-! ### The refusals, in the order of R67 -/

theorem schedule_of_noTime (unset : s.timebase = .unset) : schedule p args s = s.refuse .noTime := if_pos unset

theorem schedule_of_badArg (set : s.timebase ≠ .unset) (bad : scheduleArgsOk args = false) :
    schedule p args s = s.refuse .badArg := by
  rw [schedule, if_neg set, bad]
  rfl

section

variable (set : s.timebase ≠ .unset) (good : scheduleArgsOk args = true)

include set good

theorem schedule_of_notHolder (other : s.mayUse p (entryArg p args).job = false) :
    schedule p args s = s.refuse .notHolder := by
  simp only [schedule, set, good, other, Bool.not_true, Bool.not_false, Bool.false_eq_true, if_false, if_true]

variable (use : s.mayUse p (entryArg p args).job = true)

include use

theorem schedule_of_full (full : s.freeSlot = none) : schedule p args s = s.refuse .full := by
  simp only [schedule, set, good, use, full, Bool.not_true, Bool.false_eq_true, if_false]

variable {k : Slot} (free : s.freeSlot = some k)

include free

theorem schedule_of_quota (many : 24 ≤ s.entryCount p) : schedule p args s = s.refuse .quota := by
  have full : Config.quota ≤ s.entryCount p := many
  simp only [schedule, set, good, use, free, full, Bool.not_true, Bool.false_eq_true, if_false, if_true]

theorem schedule_of_past (few : s.entryCount p < 24) (past : (entryArg p args).isPast s.time = true) :
    schedule p args s = s.refuse .past := by
  have room : ¬ Config.quota ≤ s.entryCount p := Nat.not_le.mpr few
  simp only [schedule, set, good, use, free, room, past, Bool.not_true, Bool.false_eq_true, if_false, if_true]

end

/-- Settles O33. -/
theorem scheduleRefuses : Obligations.ScheduleRefuses := by
  intro p args s receiving length t refused mine
  have sent {x : Answer} (answer : schedule p args t = x) :
      exec (.schedule p args) s = .next (x.state.respond p x.status x.payload) :=
    exec_answered (c := .schedule p args) rfl receiving length answer
  refine ⟨fun unset => sent (schedule_of_noTime unset), fun set => ⟨fun bad => ?_, fun good => ?_⟩⟩
  · exact sent (schedule_of_badArg set (Bool.eq_false_iff.mpr fun good => scheduleArgsOk_iff.mp good bad))
  rw [← scheduleArgsOk_iff] at good
  have use : t.mayUse p (entryArg p args).job = true ↔ mine := mayUse_iff good
  refine ⟨fun other => ?_, fun own => ⟨fun full => ?_, fun k empty => ⟨fun many => ?_, fun few timed drops past => ?_⟩⟩⟩
  · exact sent (schedule_of_notHolder set good (Bool.eq_false_iff.mpr (mt use.mp other)))
  · exact sent (schedule_of_full set good (use.mpr own) (freeSlot_of_full full))
  · obtain ⟨j, free⟩ := freeSlot_isSome empty
    exact sent (schedule_of_quota set good (use.mpr own) free many)
  · obtain ⟨j, free⟩ := freeSlot_isSome empty
    exact sent (schedule_of_past set good (use.mpr own) free few (isPast_iff.mpr ⟨timed, drops, past⟩))

/-! ### The entry placed (R65, R72) -/

theorem placeEntry_armed {k : Slot} {e : Entry} (armed : e.due = none) :
    (s.placeEntry k e).checkNew e = { s with slots := upd s.slots k fun _ => some e } := by
  rw [State.placeEntry, State.checkNew, armed]

/-- A timed entry stands behind every entry that is not due later, and is checked if it is due already. -/
theorem placeEntry_timed {k : Slot} {e : Entry} {d : TimeValue} (due : e.due = some d) :
    (s.placeEntry k e).checkNew e =
      if s.timebase = .running ∧ d.toNat ≤ s.time.toNat then
        State.fireCheck { s with
          slots := upd s.slots k fun _ => some e
          dueOrder := insertDue s.dueAt k d.toNat (s.dueOrder.filter fun j => j != k) } false s.time
      else { s with
        slots := upd s.slots k fun _ => some e
        dueOrder := insertDue s.dueAt k d.toNat (s.dueOrder.filter fun j => j != k) } := by
  have placed : s.placeEntry k e = { s with
      slots := upd s.slots k fun _ => some e
      dueOrder := insertDue s.dueAt k d.toNat (s.dueOrder.filter fun j => j != k) } := by
    rw [State.placeEntry, due]
    dsimp only
    rw [State.makePending, ← due]
  rw [placed, State.checkNew, due]
  simp only [State.running, Bool.and_eq_true, beq_iff_eq, decide_eq_true_eq]

/-- Settles O34. -/
theorem scheduleMakes : Obligations.ScheduleMakes := by
  intro p args k s receiving length t set good own empty lowest few fresh
  rw [← scheduleArgsOk_iff] at good
  have use : t.mayUse p (entryArg p args).job = true := (mayUse_iff good).mpr own
  have notPast : (entryArg p args).isPast t.time = false := Bool.eq_false_iff.mpr fun past => by
    obtain ⟨timed, drops, late⟩ := isPast_iff.mp past
    exact absurd (fresh timed drops) (Nat.not_le.mpr late)
  have answer := schedule_carriedOut t p args set good use (freeSlot_of_lowest empty lowest) few notPast
  refine ⟨entryArg p args, entryArg_describedBy p good, ?_⟩
  rw [exec_answered (c := .schedule p args) rfl receiving length answer]
  generalize entryArg p args = e
  cases due : e.due with
  | none =>
    rw [placeEntry_armed due]
    rfl
  | some d =>
    rw [placeEntry_timed due, insertDue_eq]
    rfl

end Sys2Proof.Machine
end

section
/-! SUPPORT. CANCEL, QUERY ENTRY and LIST ENTRIES, and the reports of the other units (R39, R56, R60, R74 to R77, R121, R129,
R153). -/

namespace Sys2Proof.Machine

open Sys2Proof.Safety

variable {s : State} {p : Port} {args : List Byte}

/-- A command that only reports leaves the state and sends its report. -/
theorem exec_reports {c : Instr} {q : Request} {payload : List Byte} (h : requestOf c = some q)
    (receiving : s.settle.receiving q.port = true) (length : q.args.length = q.length)
    (answer : q.body s.settle = s.settle.ok payload) : exec c s = .next (s.settle.respond q.port .ok payload) :=
  exec_answered h receiving length answer

/-! ### The entry a handle names (R60) -/

theorem named_eq_some {g : Nat} {k : Slot} {e : Entry} (there : s.slots[k] = some e) (gen : s.gens[k].toNat = g)
    (own : e.owner = p) : s.named p g k = some e := by
  rw [State.named, there]
  exact if_pos ⟨gen, own⟩

theorem named_eq_none {g : Nat} {k : Slot} (other : ∀ e, s.slots[k] = some e → s.gens[k].toNat ≠ g ∨ e.owner ≠ p) :
    s.named p g k = none := by
  unfold State.named
  cases there : s.slots[k] with
  | none => rfl
  | some e => exact if_neg fun ⟨gen, own⟩ => (other e there).elim (· gen) (· own)

theorem cancel_of_bad (bad : 63 < arg args 1) : cancel p args s = s.refuse .badArg := by
  rw [cancel, indexField_of_ge (n := 64) (k := 1) bad]

theorem queryEntry_of_bad (bad : 63 < arg args 1) : queryEntry p args s = s.refuse .badArg := by
  rw [queryEntry, indexField_of_ge (n := 64) (k := 1) bad]

section

variable {k : Slot} (slot : arg args 1 = k.val)

include slot

theorem cancel_of_unknown (unknown : s.named p (arg args 0) k = none) : cancel p args s = s.refuse .unknownHandle := by
  rw [cancel, indexField_of_lt k slot]
  dsimp only
  rw [unknown]

theorem queryEntry_of_unknown (unknown : s.named p (arg args 0) k = none) :
    queryEntry p args s = s.refuse .unknownHandle := by
  rw [queryEntry, indexField_of_lt k slot]
  dsimp only
  rw [unknown]

variable {e : Entry} (named : s.named p (arg args 0) k = some e)

include named

theorem cancel_of_named : cancel p args s = (s.removeEntry k).ok (bytes 2 (countNumber e.remaining)) := by
  rw [cancel, indexField_of_lt k slot]
  dsimp only
  rw [named]

theorem queryEntry_of_named : queryEntry p args s = s.ok (entryReport (s.handleOf k) e) := by
  rw [queryEntry, indexField_of_lt k slot]
  dsimp only
  rw [named]

end

/-- The payload of LIST ENTRIES: the PENDING entries in due order, then the ARMED ones by slot (R77). -/
theorem listEntries_eq (p : Port) (s : State) : listEntries p s = s.ok (
    ((s.dueOrder.filter fun k => s.slots[k].any fun e => e.owner == p).flatMap fun k => [s.gens[k], BitVec.ofNat 8 k.val, 1])
    ++ (((List.finRange 64).filter fun k => s.slots[k].any fun e => e.owner == p && e.due.isNone).flatMap fun k =>
      [s.gens[k], BitVec.ofNat 8 k.val, 0])) := by
  have mine : s.listedSlots p = ((s.dueOrder.filter fun k => s.slots[k].any fun e => e.owner == p).map fun k => (k, true))
      ++ (((List.finRange 64).filter fun k => s.slots[k].any fun e => e.owner == p && e.due.isNone).map fun k => (k, false)) := by
    rw [State.listedSlots, slotsWhere_eq]
    refine congrArg (fun l : List Slot => (l.map fun k => (k, true)) ++ _) (List.filter_congr fun k _ => ?_)
    cases s.slots[k] <;> rfl
  rw [listEntries, mine, List.flatMap_append, List.flatMap_map, List.flatMap_map]
  rfl

theorem options_eq (e : Entry) : e.options = (match e.form with
      | .timed => 0
      | .armed _ _ rearm => 1 + 32 * bit rearm)
    + (match e.late with
      | .drop => 0
      | .fire => 2)
    + (match e.notify with
      | .never => 0
      | .last => 4
      | .all => 8)
    + 16 * bit e.series.isSome := by
  have late : 2 * bit (e.late == .fire) = (match e.late with
      | .drop => 0
      | .fire => 2) := by cases e.late <;> rfl
  have notify : 4 * notifyCode e.notify = (match e.notify with
      | .never => 0
      | .last => 4
      | .all => 8) := by cases e.notify <;> rfl
  rw [Entry.options, late, notify] <;> rfl

/-- The thirty bytes of QUERY ENTRY as the statement lists them (R76). -/
theorem entryReport_eq (h : Handle) (e : Entry) : entryReport h e =
    [h.gen, BitVec.ofNat 8 h.slot.val, BitVec.ofNat 8 (bit e.due.isSome),
     (match e.job with
      | .act _ .set => 0
      | .act _ .clear => 1
      | .act _ .toggle => 2
      | .act _ (.pulse _) => 3
      | .act _ .waveStart => 4
      | .act _ .waveStop => 5
      | .mark => 6 : Byte),
     (match e.job with
      | .act l _ => BitVec.ofNat 8 l.val
      | .mark => 0),
     BitVec.ofNat 8 e.options,
     (match e.form with
      | .timed => 0
      | .armed i _ _ => BitVec.ofNat 8 i.val)]
    ++ (match e.due with
        | some d => timeBytes d
        | none => bytes 7 0)
    ++ (match e.form with
        | .timed => bytes 3 0
        | .armed _ offset _ => bytes 3 offset.toNat)
    ++ (match e.job with
        | .act _ (.pulse w) => bytes 3 w
        | _ => bytes 3 0)
    ++ (match e.series with
        | some r => bytes 4 r.period
        | none => bytes 4 0)
    ++ bytes 2 (countNumber e.remaining)
    ++ (match e.series with
        | some r => bytes 2 (countNumber r.initial)
        | none => bytes 2 0)
    ++ bytes 2 e.tag.toNat := by
  have time : timeBytes (e.due.getD 0) = (match e.due with
      | some d => timeBytes d
      | none => bytes 7 0) := by
    cases e.due with
    | none => decide
    | some d => rfl
  have offset : bytes 3 e.triggerAndOffset.2 = (match e.form with
      | .timed => bytes 3 0
      | .armed _ offset _ => bytes 3 offset.toNat) := by
    unfold Entry.triggerAndOffset
    cases e.form <;> rfl
  have width : bytes 3 (widthOf e.job) = (match e.job with
      | .act _ (.pulse w) => bytes 3 w
      | _ => bytes 3 0) := by rcases e.job with ⟨_, _ | _ | _ | _ | _ | _⟩ | _ <;> rfl
  have period : bytes 4 (match e.series with
      | some r => r.period
      | none => 0) = (match e.series with
      | some r => bytes 4 r.period
      | none => bytes 4 0) := by cases e.series <;> rfl
  have initial : bytes 2 (match e.series with
      | some r => countNumber r.initial
      | none => 0) = (match e.series with
      | some r => bytes 2 (countNumber r.initial)
      | none => bytes 2 0) := by cases e.series <;> rfl
  have kind : BitVec.ofNat 8 (kindCode e.job) = (match e.job with
      | .act _ .set => 0
      | .act _ .clear => 1
      | .act _ .toggle => 2
      | .act _ (.pulse _) => 3
      | .act _ .waveStart => 4
      | .act _ .waveStop => 5
      | .mark => 6 : Byte) := by rcases e.job with ⟨_, _ | _ | _ | _ | _ | _⟩ | _ <;> rfl
  have line : BitVec.ofNat 8 (match e.job.line with
      | some l => l.val
      | none => 0) = (match e.job with
      | .act l _ => BitVec.ofNat 8 l.val
      | .mark => 0) := by cases e.job <;> rfl
  have trigger : BitVec.ofNat 8 e.triggerAndOffset.1 = (match e.form with
      | .timed => 0
      | .armed i _ _ => BitVec.ofNat 8 i.val) := by
    unfold Entry.triggerAndOffset
    cases e.form <;> rfl
  rw [← time, ← offset, ← width, ← period, ← initial, ← kind, ← line, ← trigger]
  rfl

/-- Settles O35. -/
theorem entryCommands : Obligations.EntryCommands := by
  intro p g a s receiving t
  have cancelled {x : Answer} (answer : cancel p [g, a] t = x) :
      exec (.cancel p [g, a]) s = .next (x.state.respond p x.status x.payload) :=
    exec_answered (c := .cancel p [g, a]) rfl receiving rfl answer
  have queried {x : Answer} (answer : queryEntry p [g, a] t = x) :
      exec (.queryEntry p [g, a]) s = .next (x.state.respond p x.status x.payload) :=
    exec_answered (c := .queryEntry p [g, a]) rfl receiving rfl answer
  refine ⟨fun bad => ⟨cancelled (cancel_of_bad (args := [g, a]) bad), queried (queryEntry_of_bad (args := [g, a]) bad)⟩,
    fun k slot other => ?_, fun k e slot there gen own => ?_, ?_⟩
  · have value : arg [g, a] 1 = k.val := slot ▸ indexByte_toNat k (by omega)
    have unknown : t.named p (arg [g, a] 0) k = none :=
      named_eq_none fun e there => (other e there).imp_left fun ne same => ne (BitVec.eq_of_toNat_eq same)
    exact ⟨cancelled (cancel_of_unknown value unknown), queried (queryEntry_of_unknown value unknown)⟩
  · intro count
    have value : arg [g, a] 1 = k.val := slot ▸ indexByte_toNat k (by omega)
    have named : t.named p (arg [g, a] 0) k = some e := named_eq_some there (congrArg BitVec.toNat gen) own
    have counts : countNumber = count := funext fun c => by cases c <;> rfl
    refine ⟨?_, ?_⟩
    · rw [cancelled (cancel_of_named value named), counts]
      rfl
    · rw [queried (queryEntry_of_named value named), entryReport_eq, options_eq, counts, slot, ← gen]
      rfl
  · rw [exec_answered (c := .listEntries p []) rfl receiving rfl (listEntries_eq p t)]
    rfl

/-! ### READ REFERENCE, QUERY CLAIMS and READ COUNTERS (R39, R56, R129) -/

theorem queryClaims_eq (s : State) : queryClaims s = s.ok ((List.finRange 17).flatMap fun r => s.claims[r].report) := by
  have claims : s.claims.toList = (List.finRange 17).map fun r => s.claims[r] := by
    apply List.ext_getElem <;> simp
  rw [queryClaims, claims, List.flatMap_map]

theorem diverted_eq_any (s : State) (i : Input) : s.diverted i = s.calRun.any fun c => c.input == i := by
  unfold State.diverted
  cases s.calRun <;> rfl

/-! ### READ LINE and READ CALIBRATION (R121, R153) -/

section

variable {l : Line}

theorem readLine_of_bad (bad : 7 < arg args 0) : readLine args s = s.refuse .badArg := by
  rw [readLine, indexField_of_ge (n := 8) (k := 0) bad]

theorem readCalibration_of_bad (bad : 7 < arg args 0) : readCalibration args s = s.refuse .badArg := by
  rw [readCalibration, indexField_of_ge (n := 8) (k := 0) bad]

variable (line : arg args 0 = l.val)

include line

theorem readLine_of_line : readLine args s = s.ok
    ([BitVec.ofNat 8 l.val,
      BitVec.ofNat 8 (bit s.lines[l].idle + 2 * bit s.lines[l].level + 4 * bit s.lines[l].waveDone),
      BitVec.ofNat 8 (activityCode s.lines[l].activity), BitVec.ofNat 8 s.lines[l].fineDelay.val]
      ++ bytes 3 s.lines[l].wavePeriod ++ bytes 3 s.lines[l].waveHigh ++ bytes 2 s.lines[l].waveCycles
      ++ bytes 3 s.lines[l].pulseRemainder ++ s.lines[l].waveReport) := by
  rw [readLine, indexField_of_lt l line]

theorem readCalibration_of_line : readCalibration args s = s.ok
    ([BitVec.ofNat 8 l.val, BitVec.ofNat 8 (outcomeCode s.results[l].outcome),
      BitVec.ofNat 8 (reasonCode s.results[l].reason)]
      ++ bytes 2 s.results[l].passMask.toNat
      ++ [absentByte s.results[l].lower, absentByte s.results[l].upper, absentByte s.results[l].input]
      ++ s.runReport l) := by
  rw [readCalibration, indexField_of_lt l line]

end

/-- Settles O32. -/
theorem reportsChangeNothing : Obligations.ReportsChangeNothing := by
  intro p s receiving t port index
  have ports : portByte = port := funext fun q => by cases q <;> rfl
  have absent (n : Nat) : @absentByte n = index n := funext fun x => by cases x <;> rfl
  refine ⟨?_, ?_, ?_, fun a bad => ⟨?_, ?_⟩, ?_⟩
  · refine (exec_reports (c := .readReference p []) rfl receiving rfl rfl).trans ?_
    have code : BitVec.ofNat 8 (refCode t.rdu.state) = (match t.rdu.state with
        | .off => 0
        | .searching => 1
        | .locked => 2
        | .holdover => 3 : Byte) := by cases t.rdu.state <;> rfl
    rw [code] <;> rfl
  · rw [exec_reports (c := .queryClaims p []) rfl receiving rfl (queryClaims_eq _), ← ports]
    rfl
  · refine (exec_reports (c := .readCounters p []) rfl receiving rfl rfl).trans ?_
    refine congrArg (fun f => Host.Outcome.next (t.respond p .ok ((List.finRange 8).flatMap f))) (funext fun i => ?_)
    rw [diverted_eq_any, Channel.report]
    cases t.inputs[i].edgeSelect <;> cases t.inputs[i].filter <;> rfl
  · exact exec_answered (c := .readLine p [a]) rfl receiving rfl (readLine_of_bad (args := [a]) bad)
  · exact exec_answered (c := .readCalibration p [a]) rfl receiving rfl (readCalibration_of_bad (args := [a]) bad)
  · intro l ln r head tail
    have value : arg [BitVec.ofNat 8 l.val] 0 = l.val := indexByte_toNat l (by omega)
    refine ⟨?_, ?_⟩
    · refine (exec_reports (c := .readLine p [BitVec.ofNat 8 l.val]) rfl receiving rfl (readLine_of_line value)).trans ?_
      have here : s.settle.lines[l] = ln := rfl
      have zeros : bytes 14 0 = bytes 3 0 ++ bytes 11 0 := rfl
      rw [here, zeros]
      refine congrArg (fun b => Host.Outcome.next (t.respond p .ok b)) ?_
      clear_value ln
      obtain ⟨idle, level, fine, period, high, cycles, done, activity, pin, edge⟩ := ln
      cases activity <;> rfl
    · refine (exec_reports (c := .readCalibration p [BitVec.ofNat 8 l.val]) rfl receiving rfl
        (readCalibration_of_line value)).trans ?_
      rw [absent, absent]
      refine congrArg (fun b => Host.Outcome.next (t.respond p .ok b)) (congrArg₂ (· ++ ·) (congrArg₂ (· ++ ·)
        (congrArg₂ (· ++ ·) (List.cons_eq_cons.mpr ⟨rfl, List.cons_eq_cons.mpr ⟨?_, List.cons_eq_cons.mpr ⟨?_, rfl⟩⟩⟩) rfl)
        rfl) ?_)
      · change BitVec.ofNat 8 (outcomeCode r.outcome) = _
        cases r.outcome <;> rfl
      · change BitVec.ofNat 8 (reasonCode r.reason) = _
        rcases r.reason with _ | _ | _ | _ | _ <;> rfl
      · change t.runReport l = _
        unfold State.runReport
        cases t.calRun <;> rfl

end Sys2Proof.Machine
end

section
/-! SUPPORT. Firing: one occurrence and its notice, and a firing check as the heads it takes (R86 to R104). -/

namespace Sys2Proof.Machine

open Sys2Proof.Safety

variable {s : State}

/-! ### The number of Periods an occurrence consumes (R96, R97) -/

/-- The least number of Periods after which an entry is not overdue. -/
theorem catchUp_eq {late period n : Nat} (least : 1 ≤ n) (enough : late ≤ n * period + 1)
    (needed : 1 < n → (n - 1) * period + 1 < late) : catchUp late period = n := by
  unfold catchUp
  split_ifs with onTime
  · by_contra ne
    have := needed (by omega)
    omega
  · have some : 0 < period := Nat.pos_of_ne_zero fun zero => by
      rw [zero, Nat.mul_zero] at enough
      omega
    obtain ⟨m, rfl⟩ : ∃ m, n = m + 1 := ⟨n - 1, by omega⟩
    rw [Nat.add_mul, Nat.one_mul] at enough
    have short : m * period + 1 < late := by
      cases m with
      | zero => omega
      | succ m => exact needed (by omega)
    refine Nat.div_eq_of_lt_le ?_ ?_
    · rw [Nat.add_mul, Nat.one_mul]
      omega
    · rw [Nat.add_mul, Nat.add_mul, Nat.one_mul]
      omega

/-- Of a late occurrence the next Due is not overdue, and of one on time it lies a Period on. -/
theorem catchUp_enough {late period : Nat} (some : 0 < period) :
    1 ≤ catchUp late period ∧ late ≤ catchUp late period * period + 1 := by
  unfold catchUp
  split_ifs with onTime
  · omega
  · have room := Nat.div_add_mod (late - 1 + (period - 1)) period
    have small := Nat.mod_lt (late - 1 + (period - 1)) some
    rw [Nat.mul_comm] at room
    refine ⟨Nat.div_pos (by omega) some, by omega⟩

/-! ### What an occurrence leaves in the due order -/

theorem settleSeries_alone {e : Entry} (alone : e.series = none) (wrapped : Bool) (d : TimeValue) (late : Nat) :
    settleSeries wrapped e d late = { consumed := 1, skipped := 0, next := none } := by
  rw [settleSeries, alone]

/-- No more occurrences remain than the n Periods passed (R96). -/
theorem settleSeries_ends {e : Entry} {r : Repeat} {k late : Nat} (series : e.series = some r)
    (remaining : e.remaining = .finite k) (few : k ≤ catchUp late r.period) (wrapped : Bool) (d : TimeValue) :
    settleSeries wrapped e d late = { consumed := k, skipped := k - 1, next := none } := by
  rw [settleSeries, series]
  dsimp only
  rw [remaining]
  exact if_pos few

/-- More occurrences remain than the n Periods passed (R96, R97). -/
theorem settleSeries_goesOn {e : Entry} {r : Repeat} {late : Nat} (series : e.series = some r)
    (many : ∀ k, e.remaining = .finite k → catchUp late r.period < k) (wrapped : Bool) (d : TimeValue) :
    settleSeries wrapped e d late =
      { consumed := catchUp late r.period
        skipped := catchUp late r.period - 1
        next := if wrapped = true ∨ 2 ^ 52 ≤ d.toNat + catchUp late r.period * r.period then none
          else some (BitVec.ofNat 52 (d.toNat + catchUp late r.period * r.period),
            Count.less (catchUp late r.period) e.remaining) } := by
  rw [settleSeries, series]
  dsimp only
  cases count : e.remaining with
  | unlimited => rfl
  | finite k => exact if_neg (Nat.not_le.mpr (many k count))

/-- A series ends with an occurrence or goes on after it. -/
theorem few_or_many (count : Count) (n : Nat) :
    (∃ k, count = .finite k ∧ k ≤ n) ∨ ∀ k, count = .finite k → n < k := by
  cases count with
  | unlimited => exact .inr fun k is => Count.noConfusion is
  | finite k =>
    obtain few | many := Nat.lt_or_ge n k |>.symm
    · exact .inl ⟨k, rfl, few⟩
    · exact .inr fun j is => by
        cases is
        exact many

/-- A wrap leaves no next Due (R104). -/
theorem settleSeries_wrapped (e : Entry) (d : TimeValue) (late : Nat) : (settleSeries true e d late).next = none := by
  cases series : e.series with
  | none => rw [settleSeries_alone series]
  | some r =>
    obtain ⟨k, remaining, few⟩ | many := few_or_many e.remaining (catchUp late r.period)
    · rw [settleSeries_ends series remaining few]
    · rw [settleSeries_goesOn series many]
      dsimp only
      rw [if_pos (Or.inl (Eq.refl true))]

/-- The next Due lies n Periods on, within the range of time (R96, R97). -/
theorem settleSeries_due {e : Entry} {d due : TimeValue} {late : Nat} {left : Count}
    (next : (settleSeries false e d late).next = some (due, left)) :
    ∃ r, e.series = some r ∧ due.toNat = d.toNat + catchUp late r.period * r.period := by
  cases series : e.series with
  | none =>
    rw [settleSeries_alone series] at next
    cases next
  | some r =>
    refine ⟨r, rfl, ?_⟩
    obtain ⟨k, remaining, few⟩ | many := few_or_many e.remaining (catchUp late r.period)
    · rw [settleSeries_ends series remaining few] at next
      cases next
    · rw [settleSeries_goesOn series many] at next
      by_cases far : 2 ^ 52 ≤ d.toNat + catchUp late r.period * r.period
      · rw [if_pos (Or.inr far)] at next
        cases next
      · rw [if_neg (not_or.mpr ⟨Bool.false_ne_true, far⟩)] at next
        cases next
        rw [BitVec.toNat_ofNat]
        exact Nat.mod_eq_of_lt (Nat.not_le.mp far)

theorem finishEntry_dueOrder (k : Slot) (e : Entry) :
    (s.finishEntry k e).dueOrder = s.dueOrder.filter fun j => j != k := by
  unfold State.finishEntry
  split <;> rfl

theorem finishEntry_other {k j : Slot} (e : Entry) (ne : j ≠ k) : (s.finishEntry k e).slots[j] = s.slots[j] := by
  unfold State.finishEntry
  split
  · exact upd_other _ _ ne.symm
  · exact upd_other _ _ ne.symm

/-- An occurrence of a wrap takes its slot off the due order. -/
theorem occurrence_wrapped_dueOrder (now : TimeValue) (k : Slot) :
    (s.occurrence true now k).dueOrder = s.dueOrder.filter fun j => j != k := by
  obtain ⟨-, eq⟩ | ⟨e, d, u, -, -, -, ⟨-, -, order⟩, eq⟩ := occurrence_cases s true now k
  · rw [eq]
  · rw [eq, settleSeries_wrapped]
    exact (finishEntry_dueOrder k e).trans (by rw [order])

/-- All an occurrence can do to the due order: its slot leaves it, or comes back with a later Due, not overdue. -/
theorem occurrence_order_cases {now d : TimeValue} {k : Slot} {e : Entry} (ok : TableOk s) (there : s.slots[k] = some e)
    (pending : e.due = some d) (due : d.toNat ≤ now.toNat) :
    (∀ j, j ≠ k → (s.occurrence false now k).slots[j] = s.slots[j])
    ∧ ((s.occurrence false now k).dueOrder = s.dueOrder.filter (fun j => j != k)
      ∨ ((s.occurrence false now k).dueOrder.Perm (k :: s.dueOrder.filter fun j => j != k)
        ∧ now.toNat ≤ (s.occurrence false now k).dueAt k + 1
        ∧ (now.toNat ≤ d.toNat + 1 → now.toNat < (s.occurrence false now k).dueAt k))) := by
  obtain ⟨absent, -⟩ | ⟨e', d', u, there', pending', -, ⟨slots, -, order⟩, eq⟩ := occurrence_cases s false now k
  · rw [(pendingIn_iff s).mpr ⟨there, pending⟩] at absent
    cases absent
  rw [there] at there'
  cases there'
  rw [pending] at pending'
  cases pending'
  rw [eq]
  cases next : (settleSeries false e d (lateness false d now)).next with
  | none => exact ⟨fun j ne => (finishEntry_other e ne).trans (by rw [slots]), .inl ((finishEntry_dueOrder k e).trans (by rw [order]))⟩
  | some x =>
    obtain ⟨due', left⟩ := x
    obtain ⟨r, series, value⟩ := settleSeries_due next
    obtain ⟨-, -, range, -, -⟩ := ok.2.1 k e there
    obtain ⟨least, -, -⟩ := range r series
    obtain ⟨once, enough⟩ := catchUp_enough (late := lateness false d now) (period := r.period) (by omega)
    have period : r.period ≤ catchUp (lateness false d now) r.period * r.period := Nat.le_mul_of_pos_left _ once
    have late : lateness false d now = now.toNat - d.toNat := rfl
    have here : (u.makePending k { e with remaining := left } due').dueAt k = due'.toNat :=
      dueAt_of_pending (by rw [State.makePending_slots, upd_same]) rfl
    have settled : u.settleEntry k e (some (due', left)) = u.makePending k { e with remaining := left } due' := rfl
    rw [settled]
    refine ⟨fun j ne => ?_, .inr ⟨?_, ?_, fun onTime => ?_⟩⟩
    · rw [State.makePending_slots, upd_other _ _ ne.symm, slots]
    · rw [← order]
      exact insertDue_perm _ _ _ _
    · rw [here]
      omega
    · rw [here]
      omega

/-! ### A firing check -/

/-- The number of times a check takes an entry: twice when it comes back with a Due that is due at once (R86, R97). -/
def State.turns (s : State) (now : TimeValue) (k : Slot) : Nat :=
  if now.toNat < s.dueAt k then 0 else if now.toNat ≤ s.dueAt k + 1 then 1 else 2

def State.turnsDue (s : State) (now : TimeValue) : Nat := (s.dueOrder.map (s.turns now)).sum

theorem turns_le_two (s : State) (now : TimeValue) (k : Slot) : s.turns now k ≤ 2 := by
  unfold State.turns
  split_ifs <;> omega

theorem turns_eq_zero {now : TimeValue} {k : Slot} : s.turns now k = 0 ↔ now.toNat < s.dueAt k := by
  unfold State.turns
  split_ifs with early
  · exact ⟨fun _ => early, fun _ => rfl⟩
  · exact ⟨fun h => h.elim, fun h => absurd h early⟩
  · exact ⟨fun h => h.elim, fun h => absurd h early⟩

theorem turnsDue_le (s : State) (now : TimeValue) : s.turnsDue now ≤ 2 * s.dueOrder.length := by
  have each := List.sum_le_card_nsmul (s.dueOrder.map (s.turns now)) 2 fun x mem => by
    obtain ⟨k, -, rfl⟩ := List.mem_map.mp mem
    exact turns_le_two s now k
  rw [List.length_map, smul_eq_mul, Nat.mul_comm] at each
  exact each

/-- Taking the head leaves fewer turns. -/
theorem occurrence_turnsDue {now : TimeValue} {k : Slot} {rest : List Slot} (ok : TableOk s) (order : s.dueOrder = k :: rest)
    (due : s.dueAt k ≤ now.toNat) : (s.occurrence false now k).turnsDue now < s.turnsDue now := by
  obtain ⟨nodup, within, -⟩ := ok.1
  obtain ⟨e, there, timed⟩ := (within k).mp (order ▸ List.mem_cons_self)
  obtain ⟨d, pending⟩ := Option.isSome_iff_exists.mp timed
  have at_k : s.dueAt k = d.toNat := dueAt_of_pending there pending
  obtain ⟨others, left⟩ := occurrence_order_cases (now := now) ok there pending (at_k ▸ due)
  obtain ⟨out, -⟩ := List.nodup_cons.mp (order ▸ nodup)
  have others_rest : (s.dueOrder.filter fun j => j != k) = rest := by
    rw [order, List.filter_cons_of_neg (by simp)]
    exact List.filter_eq_self.mpr fun j mem => bne_iff_ne.mpr fun eq => out (eq ▸ mem)
  have same : rest.map ((s.occurrence false now k).turns now) = rest.map (s.turns now) :=
    List.map_congr_left fun j mem => by
      unfold State.turns
      rw [dueAt_congr (others j fun eq => out (eq ▸ mem))]
  have before : s.turnsDue now = s.turns now k + (rest.map (s.turns now)).sum := by
    rw [State.turnsDue, order, List.map_cons, List.sum_cons]
  have here : s.turns now k = if now.toNat ≤ d.toNat + 1 then 1 else 2 := by
    rw [State.turns, at_k, if_neg (by omega)]
  rw [others_rest] at left
  obtain gone | ⟨back, enough, onTime⟩ := left
  · rw [before, State.turnsDue, gone, same, here]
    split_ifs <;> omega
  · rw [before, State.turnsDue, (back.map _).sum_eq, List.map_cons, List.sum_cons, same, here]
    refine Nat.add_lt_add_right ?_ _
    unfold State.turns
    split_ifs <;> omega

theorem fireLoop_of_early {now : TimeValue} (early : ∀ k rest, s.dueOrder = k :: rest → now.toNat < s.dueAt k)
    (fuel : Nat) : fireLoop fuel now s = s := by
  cases fuel with
  | zero => rfl
  | succ fuel =>
    unfold fireLoop
    split
    · rfl
    next k rest order => exact if_pos (early k rest order)

theorem fireLoop_of_due {now : TimeValue} {k : Slot} {rest : List Slot} (order : s.dueOrder = k :: rest)
    (due : s.dueAt k ≤ now.toNat) (fuel : Nat) :
    fireLoop (fuel + 1) now s = fireLoop fuel now (s.occurrence false now k) := by
  rw [fireLoop, order]
  exact if_neg (Nat.not_lt.mpr due)

theorem early_of_turnsDue {now : TimeValue} (zero : s.turnsDue now = 0) : ∀ k ∈ s.dueOrder, now.toNat < s.dueAt k :=
  fun _ mem => turns_eq_zero.mp (List.sum_eq_zero_iff.mp zero _ (List.mem_map_of_mem mem))

theorem early_or_due (s : State) (now : TimeValue) :
    (∀ k rest, s.dueOrder = k :: rest → now.toNat < s.dueAt k)
      ∨ ∃ k rest, s.dueOrder = k :: rest ∧ s.dueAt k ≤ now.toNat := by
  cases order : s.dueOrder with
  | nil => exact .inl fun k rest is => (List.cons_ne_nil k rest is.symm).elim
  | cons k rest =>
    by_cases early : now.toNat < s.dueAt k
    · exact .inl fun j tail is => by
        cases is
        exact early
    · exact .inr ⟨k, rest, rfl, Nat.not_lt.mp early⟩

/-- With fuel for every turn, more fuel changes nothing. -/
theorem fireLoop_enough {now : TimeValue} : ∀ (n m : Nat) (s : State), TableOk s → s.turnsDue now ≤ n →
    s.turnsDue now ≤ m → fireLoop n now s = fireLoop m now s
  | n, m, s, ok, hn, hm => by
    obtain early | ⟨k, _, order, due⟩ := early_or_due s now
    · rw [fireLoop_of_early early, fireLoop_of_early early]
    · have fewer := occurrence_turnsDue ok order due
      obtain ⟨n, rfl⟩ : ∃ n', n = n' + 1 := ⟨n - 1, by omega⟩
      obtain ⟨m, rfl⟩ : ∃ m', m = m' + 1 := ⟨m - 1, by omega⟩
      rw [fireLoop_of_due order due, fireLoop_of_due order due]
      exact fireLoop_enough n m _ (occurrence_tableOk s false now k ok) (by omega) (by omega)

theorem fireLoop_done {now : TimeValue} : ∀ (n : Nat) (s : State), TableOk s → s.turnsDue now ≤ n →
    TableOk (fireLoop n now s) ∧ (fireLoop n now s).turnsDue now = 0
  | 0, _, ok, le => ⟨ok, Nat.le_zero.mp le⟩
  | n + 1, s, ok, le => by
    obtain early | ⟨k, rest, order, due⟩ := early_or_due s now
    · rw [fireLoop_of_early early]
      refine ⟨ok, List.sum_eq_zero_iff.mpr fun x mem => ?_⟩
      obtain ⟨k, there, rfl⟩ := List.mem_map.mp mem
      refine turns_eq_zero.mpr ?_
      cases order : s.dueOrder with
      | nil => exact (List.not_mem_nil (order ▸ there)).elim
      | cons h rest =>
        have sorted := ok.1.2.2
        rw [order] at sorted there
        have first := early h rest order
        obtain rfl | later := List.mem_cons.mp there
        · exact first
        · exact first.trans_le ((List.pairwise_cons.mp sorted).1 k later)
    · have fewer := occurrence_turnsDue ok order due
      rw [fireLoop_of_due order due]
      exact fireLoop_done n _ (occurrence_tableOk s false now k ok) (by omega)

theorem foldl_occurrence_dueOrder (now : TimeValue) : ∀ (l : List Slot) (s : State),
    (l.foldl (fun u k => u.occurrence true now k) s).dueOrder = s.dueOrder.filter fun j => decide (j ∉ l)
  | [], s => by simp
  | k :: l, s => by
    rw [List.foldl_cons, foldl_occurrence_dueOrder now l, occurrence_wrapped_dueOrder, List.filter_filter]
    refine List.filter_congr fun j _ => ?_
    by_cases same : j = k <;> simp [same]

theorem takeWrapped_dueOrder (s : State) (now : TimeValue) : (s.takeWrapped now).dueOrder = [] := by
  rw [State.takeWrapped, foldl_occurrence_dueOrder]
  exact List.filter_eq_nil_iff.mpr fun j mem => by simpa using mem

theorem fireCheck_ordinary (s : State) (now : TimeValue) :
    s.fireCheck false now = fireLoop (2 * s.dueOrder.length) now s := rfl

/-- Settles O36: a check takes the head while it is due, and its fuel is enough. -/
theorem checkTakesHeads : Obligations.CheckTakesHeads := by
  refine ⟨fun now s order => (fireCheck_ordinary s now).trans (fireLoop_of_early (fun k rest is => ?_) _),
    fun k rest now s order early => (fireCheck_ordinary s now).trans (fireLoop_of_early (fun j tail is => ?_) _),
    fun k rest now s ok order due => ?_, fun now s ok => ?_, fun now s => ?_⟩
  · rw [order] at is
    cases is
  · rw [order] at is
    cases is
    exact early
  · have fewer := occurrence_turnsDue ok order due
    have room := turnsDue_le s now
    have room' := turnsDue_le (s.occurrence false now k) now
    rw [fireCheck_ordinary, fireCheck_ordinary]
    obtain ⟨n, fuel⟩ : ∃ n, 2 * s.dueOrder.length = n + 1 := ⟨2 * s.dueOrder.length - 1, by omega⟩
    rw [fuel, fireLoop_of_due order due]
    exact fireLoop_enough _ _ _ (occurrence_tableOk s false now k ok) (by omega) room'
  · obtain ⟨table, none_due⟩ := fireLoop_done (now := now) _ s ok (turnsDue_le s now)
    exact ⟨table.1, early_of_turnsDue none_due⟩
  · have idle : (s.takeWrapped now).takeDue now = s.takeWrapped now := by
      rw [State.takeDue, takeWrapped_dueOrder]
      rfl
    exact ⟨idle, (congrArg State.dueOrder idle).trans (takeWrapped_dueOrder s now)⟩

/-! ### What one occurrence does -/

theorem verdict_cases (late : Nat) (policy : LatePolicy) :
    (late ≤ 1 ∧ verdict late policy = .onTime) ∨ (¬late ≤ 1 ∧ policy = .fire ∧ verdict late policy = .fireLate)
      ∨ (¬late ≤ 1 ∧ policy ≠ .fire ∧ verdict late policy = .drop) := by
  by_cases onTime : late ≤ 1
  · exact .inl ⟨onTime, if_pos onTime⟩
  · refine .inr ?_
    cases policy with
    | fire => exact .inl ⟨onTime, rfl, if_neg onTime⟩
    | drop => exact .inr ⟨onTime, LatePolicy.noConfusion, if_neg onTime⟩

theorem deliverOccurrence_verdict (s : State) (late : Nat) (policy : LatePolicy) (job : Job) :
    s.deliverOccurrence (verdict late policy) job =
      if late ≤ 1 ∨ policy = .fire then (match job with
        | .act l a => s.deliver l a
        | .mark => s)
      else s := by
  obtain ⟨onTime, is⟩ | ⟨-, fire, is⟩ | ⟨overdue, drop, is⟩ := verdict_cases late policy
  · rw [is, if_pos (Or.inl onTime)]
    cases job <;> rfl
  · rw [is, if_pos (Or.inr fire)]
    cases job <;> rfl
  · rw [is, if_neg (not_or.mpr ⟨overdue, drop⟩)]
    cases job <;> rfl

theorem firingKind_verdict (late : Nat) (policy : LatePolicy) :
    firingKind (verdict late policy) = if late ≤ 1 then .fired else if policy = .fire then .firedLate else .dropped := by
  obtain ⟨onTime, is⟩ | ⟨overdue, fire, is⟩ | ⟨overdue, drop, is⟩ := verdict_cases late policy
  · rw [is, if_pos onTime]
    rfl
  · rw [is, if_neg overdue, if_pos fire]
    rfl
  · rw [is, if_neg overdue, if_neg drop]
    rfl

theorem firingDetail_verdict (late : Nat) (policy : LatePolicy) (st : Settlement) :
    firingDetail (verdict late policy) st =
      if late ≤ 1 then remainingCode 24 st
      else if policy = .fire then min st.skipped 255 * 65536 + remainingCode 16 st
      else min st.consumed 16777215 := by
  obtain ⟨onTime, is⟩ | ⟨overdue, fire, is⟩ | ⟨overdue, drop, is⟩ := verdict_cases late policy
  · rw [is, if_pos onTime]
    rfl
  · rw [is, if_neg overdue, if_pos fire]
    rfl
  · rw [is, if_neg overdue, if_neg drop]
    rfl

theorem asks_iff (n : Notify) (next : Option (TimeValue × Count)) :
    n.asks next.isNone = true ↔ n = .all ∨ (n = .last ∧ next = none) := by
  cases n <;> cases next <;> simp [Notify.asks]

/-- The Remaining that n Periods leave of an entry; none when the occurrence is final (R96). -/
def Entry.leaves (e : Entry) (n : Nat) : Option Count :=
  match e.series, e.remaining with
  | none, _ => none
  | some _, .unlimited => some .unlimited
  | some _, .finite r => if n < r then some (.finite (r - n)) else none

/-- The number of occurrences that n Periods consume of an entry (R96). -/
def Entry.consumes (e : Entry) (n : Nat) : Nat :=
  match e.series, e.remaining with
  | some _, .finite r => min r n
  | _, _ => n

/-- The time that n Periods take. -/
def Entry.span (e : Entry) (n : Nat) : Nat :=
  n * (match e.series with
    | some r => r.period
    | none => 0)

/-- An occurrence settled, by the number n of Periods after which its entry is not overdue. -/
theorem settleSeries_leaves {wrapped : Bool} {e : Entry} {d : TimeValue} {late n : Nat} (one : 1 ≤ n)
    (alone : e.series = none → n = 1)
    (least : ∀ r, e.series = some r → late ≤ n * r.period + 1 ∧ (1 < n → (n - 1) * r.period + 1 < late)) :
    settleSeries wrapped e d late =
      { consumed := e.consumes n
        skipped := e.consumes n - 1
        next := (if wrapped = false ∧ d.toNat + e.span n < 2 ^ 52 then e.leaves n else none).map
          fun r => (BitVec.ofNat 52 (d.toNat + e.span n), r) } := by
  cases series : e.series with
  | none =>
    rw [settleSeries_alone series, Entry.consumes, Entry.leaves, series, alone series]
    simp
  | some r =>
    obtain ⟨enough, needed⟩ := least r series
    have periods := catchUp_eq one enough needed
    have span : e.span n = n * r.period := by rw [Entry.span, series]
    obtain ⟨k, remaining, few⟩ | many := few_or_many e.remaining (catchUp late r.period)
    · rw [settleSeries_ends series remaining few, Entry.consumes, Entry.leaves, series, remaining]
      rw [periods] at few
      simp [Nat.min_eq_left few, Nat.not_lt.mpr few]
    · rw [settleSeries_goesOn series many, periods, span]
      rw [periods] at many
      have all : e.consumes n = n := by
        rw [Entry.consumes, series]
        cases count : e.remaining with
        | unlimited => rfl
        | finite k => exact Nat.min_eq_right (many k count).le
      have left : e.leaves n = some (Count.less n e.remaining) := by
        rw [Entry.leaves, series]
        cases count : e.remaining with
        | unlimited => rfl
        | finite k => exact if_pos (many k count)
      rw [all, left]
      by_cases last : wrapped = true ∨ 2 ^ 52 ≤ d.toNat + n * r.period
      · rw [if_pos last, if_neg fun goesOn => last.elim (by simp [goesOn.1]) (Nat.not_le.mpr goesOn.2)]
        rfl
      · obtain ⟨now, near⟩ := not_or.mp last
        rw [if_neg last, if_pos ⟨Bool.eq_false_iff.mpr now, Nat.not_le.mp near⟩]
        rfl

end Sys2Proof.Machine
end

section
/-! SUPPORT. One occurrence, and the triggers of a record (R78, R88 to R99). -/

namespace Sys2Proof.Machine

open Sys2Proof.Safety

variable {s : State}

theorem occurrence_of_pending {k : Slot} {e : Entry} {d : TimeValue} (there : s.slots[k] = some e) (pending : e.due = some d)
    (wrapped : Bool) (now : TimeValue) :
    s.occurrence wrapped now k =
      ((s.deliverOccurrence (verdict (lateness wrapped d now) e.late) e.job).noticeOccurrence e (s.handleOf k)
        (verdict (lateness wrapped d now) e.late) (settleSeries wrapped e d (lateness wrapped d now)) now).settleEntry k e
          (settleSeries wrapped e d (lateness wrapped d now)).next := by
  rw [State.occurrence, (pendingIn_iff s).mpr ⟨there, pending⟩]

/-- An entry re-inserted goes behind every slot whose Due is not later than its own (R65). -/
theorem settleEntry_some {u : State} {k : Slot} {due : Nat} (e : Entry) (left : Count) (range : due < 2 ^ 52)
    (slots : u.slots = s.slots) (order : u.dueOrder = s.dueOrder) :
    u.settleEntry k e (some (BitVec.ofNat 52 due, left)) =
      { u with
        slots := upd s.slots k fun _ => some { e with due := some (BitVec.ofNat 52 due), remaining := left }
        dueOrder := ((s.dueOrder.filter fun j => j != k).takeWhile fun j => decide (s.dueAt j ≤ due))
          ++ k :: (s.dueOrder.filter fun j => j != k).dropWhile fun j => decide (s.dueAt j ≤ due) } := by
  have dues : u.dueAt = s.dueAt := funext fun j => dueAt_congr (by rw [slots])
  have value : (BitVec.ofNat 52 due).toNat = due := by
    rw [BitVec.toNat_ofNat]
    exact Nat.mod_eq_of_lt range
  change u.makePending k _ _ = _
  rw [State.makePending, slots, order, dues, value, insertDue_eq]

/-- A final occurrence: back to ARMED with Rearm, and out of the table without it (R99). -/
theorem finishEntry_eq {u : State} {k : Slot} (e : Entry) (slots : u.slots = s.slots) (gens : u.gens = s.gens)
    (order : u.dueOrder = s.dueOrder) :
    u.finishEntry k e = match e.form with
      | .armed _ _ true => { u with
          slots := upd s.slots k fun _ => some { e with
            due := none
            remaining := match e.series with
              | some r => r.initial
              | none => .finite 1 }
          dueOrder := s.dueOrder.filter fun j => j != k }
      | _ => { u with
          slots := upd s.slots k fun _ => none
          gens := upd s.gens k fun g => g + 1
          dueOrder := s.dueOrder.filter fun j => j != k } := by
  rw [← slots, ← gens, ← order]
  obtain ⟨_, _, form, _, _, _, _, _, _⟩ := e
  cases form with
  | timed => rfl
  | armed i offset rearm => cases rearm <;> rfl

theorem remainingCode_map (width consumed skipped : Nat) (due : TimeValue) (next : Option Count) :
    remainingCode width { consumed := consumed, skipped := skipped, next := next.map fun r => (due, r) } =
      match next with
      | none => 0
      | some .unlimited => 2 ^ width - 1
      | some (.finite r) => r := by
  cases next with
  | none => rfl
  | some r => cases r <;> rfl

/-- Settles O37: the action, the notice, and what becomes of the entry. -/
theorem occurrenceActs : Obligations.OccurrenceActs := by
  intro wrapped k e d now n s there pending reached one alone late least left due next consumed remaining notice acted told
    order
  have lateIs : lateness wrapped d now = late := by
    have := d.isLt
    cases wrapped with
    | false => rfl
    | true =>
      change 2 ^ 52 + now.toNat - d.toNat = 2 ^ 52 - d.toNat + now.toNat
      omega
  have settled : settleSeries wrapped e d late =
      { consumed := consumed, skipped := consumed - 1, next := next.map fun r => (BitVec.ofNat 52 due, r) } :=
    settleSeries_leaves one alone least
  have detail : firingDetail (verdict late e.late) (settleSeries wrapped e d late) =
      if late ≤ 1 then remaining 24
      else if e.late = .fire then min (consumed - 1) 255 * 65536 + remaining 16
      else min consumed 16777215 := by
    have rest (width : Nat) : remainingCode width (settleSeries wrapped e d late) = remaining width := by
      rw [settled]
      exact remainingCode_map width _ _ _ next
    rw [firingDetail_verdict, rest, rest, settled]
  have final : (settleSeries wrapped e d late).next = none ↔ next = none := by
    rw [settled]
    exact Option.map_eq_none_iff
  have toldIs : (s.deliverOccurrence (verdict late e.late) e.job).noticeOccurrence e (s.handleOf k) (verdict late e.late)
      (settleSeries wrapped e d late) now = told := by
    have actedIs : s.deliverOccurrence (verdict late e.late) e.job = acted := deliverOccurrence_verdict s late e.late e.job
    rw [actedIs, State.noticeOccurrence, firingKind_verdict, detail]
    refine ite_congr (propext ?_) (fun _ => rfl) fun _ => rfl
    rw [asks_iff, final]
  obtain ⟨slots, gens, dueOrder⟩ := told_table s e (s.handleOf k) (verdict late e.late) (settleSeries wrapped e d late) now
  rw [toldIs] at slots gens dueOrder
  have range : next ≠ none → due < 2 ^ 52 := fun some => by
    by_contra far
    exact some (if_neg fun goesOn => far goesOn.2)
  rw [occurrence_of_pending there pending, lateIs, toldIs, settled]
  clear_value next due told
  cases next with
  | some r => exact settleEntry_some e r (range (Option.some_ne_none r)) slots dueOrder
  | none => exact finishEntry_eq e slots gens dueOrder

/-! ### The entries a record triggers (R78) -/

section
variable {i : Input} {time : TimeValue} {j k : Slot} {e : Entry} {offset : BitVec 24}

theorem triggerSlot_of_armed (on : s.armedOn i k = some (e, offset)) (time : TimeValue) :
    s.triggerSlot i time k = s.makePending k e (time + offset.setWidth 52) := by
  rw [State.triggerSlot, on]
  rfl

theorem triggerSlot_of_not (off : s.armedOn i k = none) (time : TimeValue) : s.triggerSlot i time k = s := by
  rw [State.triggerSlot, off]

theorem armedOn_congr {t : State} (same : t.slots[k] = s.slots[k]) : t.armedOn i k = s.armedOn i k := by
  rw [State.armedOn, same, State.armedOn]

theorem triggerSlot_other (i : Input) (time : TimeValue) (ne : j ≠ k) :
    (s.triggerSlot i time k).slots[j] = s.slots[j] := by
  cases on : s.armedOn i k with
  | none => rw [triggerSlot_of_not on]
  | some x => rw [triggerSlot_of_armed on, State.makePending_slots, upd_other _ _ ne.symm]

theorem triggerSlot_same (on : s.armedOn i k = some (e, offset)) (time : TimeValue) :
    (s.triggerSlot i time k).slots[k] = some { e with due := some (time + offset.setWidth 52) } := by
  rw [triggerSlot_of_armed on, State.makePending_slots, upd_same]

theorem triggerSlot_frame (s : State) (i : Input) (time : TimeValue) (k : Slot) :
    ∃ slots order, s.triggerSlot i time k = { s with slots := slots, dueOrder := order } := by
  cases on : s.armedOn i k with
  | none => exact ⟨_, _, triggerSlot_of_not on time⟩
  | some x => exact ⟨_, _, triggerSlot_of_armed on time⟩

theorem triggerSlot_dueOrderOk (i : Input) (time : TimeValue) (k : Slot) (ok : DueOrderOk s) :
    DueOrderOk (s.triggerSlot i time k) := by
  cases on : s.armedOn i k with
  | none =>
    rw [triggerSlot_of_not on]
    exact ok
  | some x =>
    rw [triggerSlot_of_armed on]
    exact makePending_dueOrderOk _ _ _ ok

/-- An ARMED entry stands outside the due order (R64). -/
theorem armed_not_mem (ok : DueOrderOk s) (on : s.armedOn i k = some (e, offset)) : k ∉ s.dueOrder := fun mem => by
  obtain ⟨x, there, timed⟩ := (ok.2.1 k).mp mem
  obtain ⟨there', armed, -⟩ := (armedOn_iff s).mp on
  rw [there] at there'
  cases there'
  rw [armed] at timed
  cases timed

theorem triggerSlot_dueOrder (ok : DueOrderOk s) (on : s.armedOn i k = some (e, offset)) (time : TimeValue) :
    (s.triggerSlot i time k).dueOrder = insertDue s.dueAt k (time + offset.setWidth 52).toNat s.dueOrder := by
  have out := armed_not_mem ok on
  have whole : (s.dueOrder.filter fun j => j != k) = s.dueOrder :=
    List.filter_eq_self.mpr fun j mem => bne_iff_ne.mpr fun eq => out (eq ▸ mem)
  rw [triggerSlot_of_armed on, State.makePending_dueOrder, whole]

theorem triggerSlot_sublist (i : Input) (time : TimeValue) (k : Slot) (ok : DueOrderOk s) :
    s.dueOrder.Sublist (s.triggerSlot i time k).dueOrder := by
  cases on : s.armedOn i k with
  | none => rw [triggerSlot_of_not on]
  | some x =>
    rw [triggerSlot_dueOrder ok on]
    exact sublist_insertDue _ _ _ _

/-- A slot of the due order keeps its Due. -/
theorem triggerSlot_dueAt (i : Input) (time : TimeValue) (k : Slot) (ok : DueOrderOk s) (mem : j ∈ s.dueOrder) :
    (s.triggerSlot i time k).dueAt j = s.dueAt j := by
  cases on : s.armedOn i k with
  | none => rw [triggerSlot_of_not on]
  | some x => exact dueAt_congr (triggerSlot_other i time fun eq => armed_not_mem ok on (eq ▸ mem))

/-- A slot goes behind those whose Due is not later. -/
theorem pair_insertDue {f : Slot → Nat} {due : Nat} : ∀ {l : List Slot}, (l.Pairwise fun a b => f a ≤ f b) → j ∈ l →
    f j ≤ due → [j, k].Sublist (insertDue f k due l)
  | [], _, mem, _ => (List.not_mem_nil mem).elim
  | x :: rest, sorted, mem, le => by
    obtain ⟨first, sorted'⟩ := List.pairwise_cons.mp sorted
    have before : f x ≤ due := by
      obtain rfl | later := List.mem_cons.mp mem
      · exact le
      · exact (first j later).trans le
    rw [insertDue, if_pos before]
    obtain rfl | later := List.mem_cons.mp mem
    · exact (List.singleton_sublist.mpr (mem_insertDue.mpr (.inl rfl))).cons_cons j
    · exact (pair_insertDue sorted' later le).cons x

/-- The slots of a list are triggered, in the list's order. -/
def State.triggerList (s : State) (i : Input) (time : TimeValue) (l : List Slot) : State :=
  l.foldl (fun s k => s.triggerSlot i time k) s

theorem triggerList_cons (s : State) (i : Input) (time : TimeValue) (k : Slot) (l : List Slot) :
    s.triggerList i time (k :: l) = (s.triggerSlot i time k).triggerList i time l := rfl

theorem triggerAll_eq (s : State) (i : Input) (time : TimeValue) :
    s.triggerAll i time = s.triggerList i time (List.finRange 64) := rfl

theorem triggerList_frame (i : Input) (time : TimeValue) : ∀ (l : List Slot) (s : State),
    ∃ slots order, s.triggerList i time l = { s with slots := slots, dueOrder := order }
  | [], s => ⟨_, _, rfl⟩
  | k :: l, s => by
    obtain ⟨slots, order, eq⟩ := triggerSlot_frame s i time k
    obtain ⟨slots', order', eq'⟩ := triggerList_frame i time l (s.triggerSlot i time k)
    refine ⟨slots', order', ?_⟩
    rw [triggerList_cons, eq', eq]

theorem triggerList_other (i : Input) (time : TimeValue) : ∀ (l : List Slot) (s : State), j ∉ l →
    (s.triggerList i time l).slots[j] = s.slots[j]
  | [], _, _ => rfl
  | k :: l, s, out => by
    obtain ⟨ne, out'⟩ := not_or.mp (List.mem_cons.not.mp out)
    rw [triggerList_cons, triggerList_other i time l _ out', triggerSlot_other i time ne]

theorem triggerList_armed (time : TimeValue) : ∀ (l : List Slot) (s : State), l.Nodup → k ∈ l →
    s.armedOn i k = some (e, offset) →
    (s.triggerList i time l).slots[k] = some { e with due := some (time + offset.setWidth 52) }
  | [], _, _, mem, _ => (List.not_mem_nil mem).elim
  | m :: l, s, distinct, mem, on => by
    obtain ⟨out, distinct'⟩ := List.nodup_cons.mp distinct
    rw [triggerList_cons]
    obtain rfl | later := List.mem_cons.mp mem
    · rw [triggerList_other i time l _ out, triggerSlot_same on]
    · have ne : k ≠ m := fun eq => out (eq ▸ later)
      exact triggerList_armed time l _ distinct' later ((armedOn_congr (triggerSlot_other i time ne)).trans on)

theorem triggerList_not_armed (time : TimeValue) : ∀ (l : List Slot) (s : State), s.armedOn i k = none →
    (s.triggerList i time l).slots[k] = s.slots[k]
  | [], _, _ => rfl
  | m :: l, s, off => by
    have same : (s.triggerSlot i time m).slots[k] = s.slots[k] := by
      by_cases eq : k = m
      · subst eq
        rw [triggerSlot_of_not off]
      · exact triggerSlot_other i time eq
    rw [triggerList_cons, triggerList_not_armed time l _ ((armedOn_congr same).trans off), same]

theorem triggerList_dueOrder (i : Input) (time : TimeValue) : ∀ (l : List Slot) (s : State), DueOrderOk s →
    DueOrderOk (s.triggerList i time l) ∧ s.dueOrder.Sublist (s.triggerList i time l).dueOrder
  | [], _, ok => ⟨ok, List.Sublist.refl _⟩
  | k :: l, _, ok => by
    obtain ⟨kept, grows⟩ := triggerList_dueOrder i time l _ (triggerSlot_dueOrderOk i time k ok)
    exact ⟨kept, (triggerSlot_sublist i time k ok).trans grows⟩

/-- A triggered slot goes behind a PENDING one of the same Due (R65). -/
theorem triggerList_behind (time : TimeValue) : ∀ (l : List Slot) (s : State), DueOrderOk s → k ∈ l → j ∈ s.dueOrder →
    s.armedOn i k = some (e, offset) → s.dueAt j = (time + offset.setWidth 52).toNat →
    [j, k].Sublist (s.triggerList i time l).dueOrder
  | [], _, _, mem, _, _, _ => (List.not_mem_nil mem).elim
  | m :: l, s, ok, mem, pending, on, tie => by
    have ok' := triggerSlot_dueOrderOk i time m ok
    rw [triggerList_cons]
    by_cases here : k = m
    · subst here
      refine List.Sublist.trans ?_ (triggerList_dueOrder i time l _ ok').2
      rw [triggerSlot_dueOrder ok on]
      exact pair_insertDue ok.2.2 pending tie.le
    · exact triggerList_behind time l _ ok' ((List.mem_cons.mp mem).resolve_left here)
        ((triggerSlot_sublist i time m ok).subset pending) ((armedOn_congr (triggerSlot_other i time here)).trans on)
        ((triggerSlot_dueAt i time m ok pending).trans tie)

/-- Of two triggered slots of the same Due, the one triggered first stands first. -/
theorem triggerList_pair {e' : Entry} {offset' : BitVec 24} (lt : j < k)
    (tie : time + offset.setWidth 52 = time + offset'.setWidth 52) : ∀ (l : List Slot) (s : State), DueOrderOk s →
    l.Pairwise (· < ·) → j ∈ l → k ∈ l → s.armedOn i j = some (e, offset) → s.armedOn i k = some (e', offset') →
    [j, k].Sublist (s.triggerList i time l).dueOrder
  | [], _, _, _, mem, _, _, _ => (List.not_mem_nil mem).elim
  | m :: l, s, ok, ascending, mem, mem', on, on' => by
    obtain ⟨first, ascending'⟩ := List.pairwise_cons.mp ascending
    have ok' := triggerSlot_dueOrderOk i time m ok
    have notLast : k ≠ m := fun eq => by
      subst eq
      obtain rfl | later := List.mem_cons.mp mem
      · exact lt_irrefl _ lt
      · exact lt_asymm lt (first j later)
    have later' := (List.mem_cons.mp mem').resolve_left notLast
    have on'' := (armedOn_congr (triggerSlot_other i time notLast)).trans on'
    rw [triggerList_cons]
    by_cases here : j = m
    · subst here
      refine triggerList_behind time l _ ok' later' ?_ on'' ?_
      · rw [triggerSlot_dueOrder ok on]
        exact mem_insertDue.mpr (.inl rfl)
      · rw [dueAt_of_pending (triggerSlot_same on time) rfl, tie]
    · exact triggerList_pair lt tie l _ ok' ascending' ((List.mem_cons.mp mem).resolve_left here) later'
        ((armedOn_congr (triggerSlot_other i time here)).trans on) on''

theorem triggerReached_iff : s.triggerReached i time = true ↔
    ∃ k e offset, s.armedOn i k = some (e, offset) ∧ (time + offset.setWidth 52).toNat ≤ s.time.toNat := by
  rw [State.triggerReached, List.any_eq_true]
  constructor
  · rintro ⟨k, -, reached⟩
    cases on : s.armedOn i k with
    | none =>
      rw [on] at reached
      exact absurd reached Bool.false_ne_true
    | some x =>
      rw [on] at reached
      exact ⟨k, x.1, x.2, on, of_decide_eq_true reached⟩
  · rintro ⟨k, e, offset, on, le⟩
    refine ⟨k, List.mem_finRange k, ?_⟩
    rw [on]
    exact decide_eq_true le

end

/-- Settles O38: what a record's trigger makes PENDING, and where it stands in the due order. -/
theorem triggersMakePending : Obligations.TriggersMakePending := by
  intro i time s on t
  have armed {k e offset} : on k e offset ↔ s.armedOn i k = some (e, offset) := (armedOn_iff s).symm
  refine ⟨fun k e offset is => ?_, fun k not => ?_, fun ok => ⟨?_, ?_, ?_, ?_⟩, ?_, fun reached => ?_, fun not => ?_⟩
  · exact triggerList_armed time _ s (List.nodup_finRange 64) (List.mem_finRange k) (armed.mp is)
  · refine triggerList_not_armed time _ s (Option.eq_none_iff_forall_not_mem.mpr fun x is => ?_)
    exact not x.1 x.2 (armed.mpr is)
  · exact (triggerList_dueOrder i time _ s ok).1
  · exact (triggerList_dueOrder i time _ s ok).2
  · exact fun j k e e' offset offset' is is' lt tie => triggerList_pair lt tie _ s ok (List.pairwise_lt_finRange 64)
      (List.mem_finRange j) (List.mem_finRange k) (armed.mp is) (armed.mp is')
  · exact fun j k e offset pending is tie => triggerList_behind time _ s ok (List.mem_finRange k) pending (armed.mp is) tie
  · obtain ⟨slots, order, eq⟩ := triggerList_frame i time (List.finRange 64) s
    change s.triggerList i time _ = { s with
      slots := (s.triggerList i time _).slots, dueOrder := (s.triggerList i time _).dueOrder }
    rw [eq]
  · obtain ⟨running, k, e, offset, is, le⟩ := reached
    have now : (s.running && s.triggerReached i time) = true :=
      Bool.and_eq_true_iff.mpr ⟨decide_eq_true running, triggerReached_iff.mpr ⟨k, e, offset, armed.mp is, le⟩⟩
    exact if_pos now
  · refine if_neg fun now => not ?_
    obtain ⟨running, reached⟩ := Bool.and_eq_true_iff.mp now
    obtain ⟨k, e, offset, is, le⟩ := triggerReached_iff.mp reached
    exact ⟨of_decide_eq_true running, k, e, offset, armed.mpr is, le⟩

end Sys2Proof.Machine
end

section
/-! SUPPORT. The Capture Unit: its commands and the append of an accepted edge (R125 to R140). -/

namespace Sys2Proof.Machine

open Sys2Proof.Safety

variable {s : State} {p : Port} {args : List Byte}

/-! ### CONFIGURE INPUT and CLEAR COUNTER (R127, R128, R130) -/

theorem edgeSelectOf_of_gt : ∀ {n : Nat}, 3 < n → edgeSelectOf n = none
  | _ + 4, _ => rfl

theorem filterOf_of_other {c : Byte} (other : c ∉ [(1 : Byte), 2, 4, 8]) : filterOf c.toNat = none := by
  have all : ∀ c : Byte, c ∉ [(1 : Byte), 2, 4, 8] → filterOf c.toNat = none := by decide +kernel
  exact all c other

theorem configureInput_of_bad (bad : 7 < arg args 0 ∨ edgeSelectOf (arg args 1) = none ∨ filterOf (arg args 2) = none) :
    configureInput p args s = s.refuse .badArg := by
  unfold configureInput
  split
  next i select length input is is' =>
    rw [is, is'] at bad
    obtain far | bad | bad := bad
    · rw [indexField_of_ge (n := 8) (k := 0) far] at input
      cases input
    · cases bad
    · cases bad
  next => rfl

/-- The checks behind that of the arguments, in order (R49, R128, R145). -/
theorem configureInput_of_good {i : Input} {select : EdgeSelect} {length : FilterLength} (input : arg args 0 = i.val)
    (edges : edgeSelectOf (arg args 1) = some select) (filter : filterOf (arg args 2) = some length) :
    configureInput p args s = if !s.holds p (inputResource i) then s.refuse .notHolder
      else if s.diverted i then s.refuse .busy
      else (s.updInput i fun ch =>
        { ch with edgeSelect := select, filter := length
                  candidate := if length = ch.filter then ch.candidate else none }).ok [] := by
  rw [configureInput, indexField_of_lt i input, edges, filter]

theorem clearCounter_of_bad (bad : 7 < arg args 0) : clearCounter p args s = s.refuse .badArg := by
  rw [clearCounter, indexField_of_ge (n := 8) (k := 0) bad]

theorem clearCounter_of_good {i : Input} (input : arg args 0 = i.val) :
    clearCounter p args s = if !s.holds p (inputResource i) then s.refuse .notHolder
      else (s.updInput i fun ch => { ch with counter := 0 }).ok (bytes 4 s.inputs[i].counter.toNat) := by
  rw [clearCounter, indexField_of_lt i input]

/-- Settles O45. -/
theorem inputCommands : Obligations.InputCommands := by
  intro p s receiving t
  have configured {a b c : Byte} {x : Answer} (answer : configureInput p [a, b, c] t = x) :
      exec (.configureInput p [a, b, c]) s = .next (x.state.respond p x.status x.payload) :=
    exec_answered (c := .configureInput p [a, b, c]) rfl receiving rfl answer
  have cleared {a : Byte} {x : Answer} (answer : clearCounter p [a] t = x) :
      exec (.clearCounter p [a]) s = .next (x.state.respond p x.status x.payload) :=
    exec_answered (c := .clearCounter p [a]) rfl receiving rfl answer
  refine ⟨fun a b c bad => configured (configureInput_of_bad ?_), fun a bad => cleared (clearCounter_of_bad bad), ?_⟩
  · obtain bad | bad | bad := bad
    · exact .inl bad
    · exact .inr (.inl (edgeSelectOf_of_gt bad))
    · exact .inr (.inr (filterOf_of_other bad))
  intro i select length a b c
  have input {rest : List Byte} : arg (a :: rest) 0 = i.val := indexByte_toNat i (by omega)
  have edges : edgeSelectOf (arg [a, b, c] 1) = some select := by cases select <;> rfl
  have filter : filterOf (arg [a, b, c] 2) = some length := by cases length <;> rfl
  have configures := configureInput_of_good (s := t) (p := p) input edges filter
  have clears := clearCounter_of_good (s := t) (p := p) (args := [a]) input
  have holds := t.holds_iff p (inputResource i)
  refine ⟨fun other => ⟨?_, ?_⟩, fun mine => ⟨fun busy => ?_, fun free => ?_, ?_⟩⟩
  · rw [Bool.eq_false_iff.mpr (mt holds.mp other)] at configures
    exact configured configures
  · rw [Bool.eq_false_iff.mpr (mt holds.mp other)] at clears
    exact cleared clears
  · rw [holds.mpr mine, busy] at configures
    exact configured configures
  · rw [holds.mpr mine, free] at configures
    exact configured configures
  · rw [holds.mpr mine] at clears
    exact cleared clears

/-! ### SUBSCRIBE and READ CAPTURES (R138 to R140) -/

theorem subscribe_of_bad (bad : 1 < arg args 1) : subscribe p args s = s.refuse .badArg := if_pos bad

theorem subscribe_of_good {mask : Byte} {fromNow : Bool} (isMask : BitVec.ofNat 8 (arg args 0) = mask)
    (start : arg args 1 = if fromNow then 1 else 0) : subscribe p args s =
    (s.updPort p fun c =>
      { c with
        subscription := mask
        cursor := if fromNow then s.nextSeq else s.ports[p].cursor
        capture := (s.unread (if fromNow then s.nextSeq else s.ports[p].cursor)).any fun r => inMask mask r.input }).ok
        (bytes 4 (if fromNow then s.nextSeq else s.ports[p].cursor).toNat) := by
  have good : ¬1 < arg args 1 := by
    rw [start]
    split_ifs <;> omega
  have now : arg args 1 = 1 ↔ fromNow = true := by
    rw [start]
    cases fromNow <;> decide
  have first : (s.updPort p fun c =>
      { c with subscription := BitVec.ofNat 8 (arg args 0), cursor := if arg args 1 = 1 then s.nextSeq else c.cursor })
      = s.updPort p fun c =>
        { c with subscription := mask, cursor := if fromNow then s.nextSeq else s.ports[p].cursor } := updPort_congr <| by
    rw [isMask, if_congr now rfl rfl]
  rw [subscribe, if_neg good, first]
  dsimp only
  unfold State.evaluateCapture
  rw [updPort_updPort, updPort_port]
  rfl

theorem readCaptures_of_bad (bad : arg args 0 = 0 ∨ 4 < arg args 0) : readCaptures p args s = s.refuse .badArg :=
  if_pos bad

theorem readCaptures_of_good {out : List CaptureRecord} {n : Nat} (good : ¬(arg args 0 = 0 ∨ 4 < arg args 0))
    (examined : examine s.ports[p].subscription (arg args 0) (s.unread s.ports[p].cursor) = (out, n)) :
    readCaptures p args s =
      (s.updPort p fun c =>
        { c with
          cursor := c.cursor + BitVec.ofNat 32 n
          capture := (s.unread (c.cursor + BitVec.ofNat 32 n)).any fun r => inMask c.subscription r.input }).ok
        ([BitVec.ofNat 8 out.length, BitVec.ofNat 8 (bit ((s.unread (s.ports[p].cursor + BitVec.ofNat 32 n)).any
            fun r => inMask s.ports[p].subscription r.input))]
          ++ bytes 4 (s.ports[p].cursor + BitVec.ofNat 32 n).toNat ++ bytes 4 s.nextSeq.toNat
          ++ out.flatMap recordBytes) := by
  rw [readCaptures]
  dsimp only
  rw [if_neg good, examined]
  dsimp only
  rw [State.evaluateCapture, updPort_updPort, updPort_port]
  rfl

/-- The records examined are those up to the last one returned, or all of them (R139). -/
theorem examine_eq (mask : BitVec 8) {rest : List CaptureRecord} : ∀ {examined : List CaptureRecord} {max : Nat},
    (examined.filter fun r => mask.getLsbD r.input.val).length ≤ max →
    rest = [] ∨ (examined.filter fun r => mask.getLsbD r.input.val).length = max →
    (∀ before r, examined = before ++ [r] → (before.filter fun r => mask.getLsbD r.input.val).length < max) →
    examine mask max (examined ++ rest) = (examined.filter fun r => mask.getLsbD r.input.val, examined.length)
  | [], max, _, ends, _ => by
    obtain rfl | rfl := ends
    · cases max <;> rfl
    · cases rest <;> rfl
  | r :: examined, max, few, ends, needed => by
    have some : 0 < max := by
      have := needed _ _ (List.dropLast_append_getLast (List.cons_ne_nil r examined)).symm
      omega
    obtain ⟨m, rfl⟩ : ∃ m, max = m + 1 := ⟨max - 1, by omega⟩
    rw [List.cons_append, examine]
    by_cases wanted : mask.getLsbD r.input.val = true
    · rw [List.filter_cons_of_pos (by exact wanted)] at few ends
      rw [List.filter_cons_of_pos (by exact wanted), if_pos (by exact wanted)]
      have tail := examine_eq mask (examined := examined) (max := m) (Nat.le_of_succ_le_succ few)
        (ends.imp_right Nat.succ.inj) fun before last eq => by
          have := needed (r :: before) last (by rw [eq]; rfl)
          rw [List.filter_cons_of_pos (by exact wanted)] at this
          exact Nat.lt_of_succ_lt_succ this
      rw [tail]
      rfl
    · rw [List.filter_cons_of_neg (by exact wanted)] at few ends
      rw [List.filter_cons_of_neg (by exact wanted), if_neg (by exact wanted)]
      have tail := examine_eq mask (examined := examined) few ends fun before last eq => by
        have := needed (r :: before) last (by rw [eq]; rfl)
        rwa [List.filter_cons_of_neg (by exact wanted)] at this
      rw [tail]
      rfl

/-- Settles O46. -/
theorem logReaders : Obligations.LogReaders := by
  intro p s receiving t after wants
  have subscribed {mask b : Byte} {x : Answer} (answer : subscribe p [mask, b] t = x) :
      exec (.subscribe p [mask, b]) s = .next (x.state.respond p x.status x.payload) :=
    exec_answered (c := .subscribe p [mask, b]) rfl receiving rfl answer
  have read {a : Byte} {x : Answer} (answer : readCaptures p [a] t = x) :
      exec (.readCaptures p [a]) s = .next (x.state.respond p x.status x.payload) :=
    exec_answered (c := .readCaptures p [a]) rfl receiving rfl answer
  refine ⟨fun mask b bad => subscribed (subscribe_of_bad bad), ?_, fun a bad => read (readCaptures_of_bad ?_), ?_⟩
  · intro mask fromNow cursor
    have value : arg [mask, if fromNow then 1 else 0] 1 = if fromNow then 1 else 0 := by cases fromNow <;> rfl
    exact subscribed (subscribe_of_good (BitVec.ofNat_toNat 8 mask) value)
  · obtain rfl | bad := bad
    · exact .inl rfl
    · exact .inr bad
  · intro max examined rest least most mask returned unread few ends needed cursor capture
    have looked : examine t.ports[p].subscription (arg [max] 0) (t.unread t.ports[p].cursor)
        = (returned, examined.length) := by
      rw [← examine_eq mask few ends needed, ← unread]
      rfl
    have inRange : ¬(arg [max] 0 = 0 ∨ 4 < arg [max] 0) := by
      rw [arg_single]
      omega
    have written : (t.updPort p fun c =>
        { c with
          cursor := c.cursor + BitVec.ofNat 32 examined.length
          capture := (t.unread (c.cursor + BitVec.ofNat 32 examined.length)).any fun r => inMask c.subscription r.input })
        = t.updPort p fun c => { c with cursor := cursor, capture := capture } := updPort_congr rfl
    rw [read (readCaptures_of_good inRange looked), ← written]
    rfl

/-! ### The append of an accepted edge (R125, R127, R131 to R135) -/

theorem selects_iff (select : EdgeSelect) (rising : Bool) : select.selects rising = true ↔ match select with
    | .none => False
    | .rising => rising = true
    | .falling => rising = false
    | .both => True := by
  cases select <;> cases rising <;> decide

theorem edgeAccepted_of_ready {i : Input} {stamp : Stamp} (ready : s.inputs[i].ready = some stamp) :
    s.edgeAccepted i =
      if (s.inputs[i].edgeSelect.selects (!s.inputs[i].accepted) && !s.diverted i) = true then
        ((s.updInput i fun ch => { ch with accepted := !s.inputs[i].accepted, ready := none }).appendRecord i
          (!s.inputs[i].accepted) stamp).trigger i stamp.time
      else s.updInput i fun ch => { ch with accepted := !s.inputs[i].accepted, ready := none } := by
  rw [State.edgeAccepted, ready]

theorem each_each {α : Type} {n : Nat} (v : Vector α n) (f g : Fin n → α → α) :
    each (each v f) g = each v fun j x => g j (f j x) :=
  table_ext fun j => by rw [each_get, each_get, each_get]

theorem upd_upd {α : Type} {n : Nat} (v : Vector α n) (i : Fin n) (f g : α → α) :
    upd (upd v i f) i g = upd v i fun x => g (f x) :=
  table_ext fun j => by
    rw [upd_get, upd_get, upd_get, upd_get, if_pos rfl]
    split_ifs <;> rfl

/-- What an append does to a port before the CAPTURE flag is set: in a full log the cursor that stands on the oldest
record moves on, and a subscriber to its input has lost it (R134). -/
def State.moved (s : State) (c : Client) : Client :=
  match s.log with
  | [] => c
  | r :: _ =>
    if 128 ≤ s.log.length ∧ c.cursor = r.seq then
      if c.subscription.getLsbD r.input.val then
        { c with cursor := c.cursor + 1, lostCaptures := satInc c.lostCaptures, loss := true }
      else { c with cursor := c.cursor + 1 }
    else c

theorem moved_of_room (room : ¬128 ≤ s.log.length) (c : Client) : s.moved c = c := by
  unfold State.moved
  split
  · rfl
  · exact if_neg fun full => room full.1

theorem makeRoom_eq (s : State) : s.makeRoom = { s with
    log := if 128 ≤ s.log.length then s.log.tail else s.log
    ports := each s.ports fun _ c => s.moved c } := by
  by_cases full : 128 ≤ s.log.length
  · obtain ⟨r, rest, log⟩ := List.exists_cons_of_length_pos (show 0 < s.log.length by omega)
    have passed : (each s.ports fun _ c => s.moved c) = each s.ports fun _ c =>
        if c.cursor = r.seq then
          if inMask c.subscription r.input then
            { c with cursor := c.cursor + 1, lostCaptures := satInc c.lostCaptures, loss := true }
          else { c with cursor := c.cursor + 1 }
        else c :=
      congrArg (each s.ports) <| funext fun _ => funext fun c => by
        rw [State.moved, log]
        exact if_congr (and_iff_right (log ▸ full)) rfl rfl
    rw [State.makeRoom, if_pos full, if_pos full, State.overwriteOldest, passed, log]
    rfl
  · have same : (each s.ports fun _ c => s.moved c) = s.ports :=
      table_ext fun q => by rw [each_get, moved_of_room full]
    rw [State.makeRoom, if_neg full, if_neg full, same]

/-- Steps 1 to 5 of an append, as one change of the state (R135). -/
theorem appendRecord_frame (s : State) (i : Input) (rising : Bool) (stamp : Stamp) : s.appendRecord i rising stamp =
    { s with
      log := (if 128 ≤ s.log.length then s.log.tail else s.log) ++ [s.recordOf i rising stamp]
      nextSeq := s.nextSeq + 1
      marker := false
      inputs := upd s.inputs i fun ch => { ch with counter := ch.counter + 1 }
      ports := each s.ports fun _ c =>
        if (s.moved c).subscription.getLsbD i.val then { s.moved c with capture := true } else s.moved c } := by
  rw [appendRecord_eq, makeRoom_eq, each_each]
  rfl

/-- Settles O47. -/
theorem edgeAppends : Obligations.EdgeAppends := by
  intro i stamp s due first judging ready w rising selected
  have taken : exec (.edgeAccepted i) s = .next (w.edgeAccepted i) :=
    exec_due rfl due (by
      intro d mem
      obtain ⟨j, before, rfl⟩ := List.mem_map.mp mem
      exact first j (of_decide_eq_true (List.mem_filter.mp before).2)) fun _ => runEnding_of_judging judging
  have selects : (s.inputs[i].edgeSelect.selects rising && !s.diverted i) = true ↔ selected := by
    rw [Bool.and_eq_true, and_comm]
    exact and_congr (iff_of_eq (Bool.not_eq_true' _)) (selects_iff _ _)
  have edge := edgeAccepted_of_ready (s := w) (i := i) ready
  refine ⟨fun not => ?_, fun is => ?_⟩
  · rw [taken, edge]
    exact congrArg _ (if_neg (mt selects.mp not))
  · intro full record moved
    rw [taken, edge]
    refine congrArg _ ((if_pos (selects.mpr is)).trans (congrArg (fun u : State => u.trigger i stamp.time) ?_))
    rw [appendRecord_frame, State.updInput, upd_upd]
    rfl

end Sys2Proof.Machine
end

section
/-! SUPPORT. What every due step leaves: the counters of the timebase, but for a REFP edge; the steps still due, but for those
of a timer; the pins of the ports. -/

namespace Sys2Proof.Machine

open Sys2Proof.Safety

/-- The pins of every port stand as before. -/
def State.PinsKept (s t : State) : Prop :=
  ∀ p : Port, t.ports[p].csLow = s.ports[p].csLow ∧ t.ports[p].rstLow = s.ports[p].rstLow

theorem State.KeptByFiring.pins {s t : State} (kept : s.KeptByFiring t) : s.PinsKept t :=
  fun p => ⟨(kept.ports p).csLow, (kept.ports p).rstLow⟩

/-- A relation that respects every operation a due step is made of, but for the realignment of a REFP edge. -/
structure StepClosed (R : State → State → Prop) : Prop extends OperationClosed R where
  background : ∀ {s t : State},
    { t with trim := s.trim, rdu := s.rdu, claims := s.claims, lines := s.lines, inputs := s.inputs, log := s.log
             nextSeq := s.nextSeq, marker := s.marker, calRun := s.calRun, results := s.results, ports := s.ports } = s →
    s.PinsKept t → R s t

namespace StepClosed

variable {R : State → State → Prop} (closed : StepClosed R) (s : State)

include closed

theorem broadcast (n : Notice) : R s (s.broadcast n) := closed.background rfl (State.broadcast_kept s n).pins

/-- A change that leaves the ports whole. -/
theorem inside {t : State}
    (h : { t with trim := s.trim, rdu := s.rdu, claims := s.claims, lines := s.lines, inputs := s.inputs, log := s.log
                  nextSeq := s.nextSeq, marker := s.marker, calRun := s.calRun, results := s.results, ports := s.ports } = s)
    (ports : t.ports = s.ports) : R s t :=
  closed.background h fun p => by rw [ports]; exact ⟨rfl, rfl⟩

theorem windowEnd : R s s.windowEnd := by
  unfold State.windowEnd
  dsimp only
  split_ifs
  · exact closed.inside s rfl rfl
  · exact closed.inside s rfl rfl

theorem crossing : R s s.crossing := by
  have changed (r : Rdu) (new : RefState) : R s (State.refStateChanged { s with rdu := r } new s.tickTime) := by
    have inside := closed.inside s (t := { s with rdu := r }) rfl rfl
    exact closed.trans inside (closed.broadcast _ _)
  unfold State.crossing
  dsimp only
  split
  · exact closed.inside s rfl rfl
  · exact closed.inside s rfl rfl
  · split_ifs
    · exact closed.inside s rfl rfl
    · exact changed _ _
  · split_ifs
    · exact closed.inside s rfl rfl
    · exact closed.inside s rfl rfl
    · exact changed _ _

theorem waveCompletion (l : Line) : R s (s.waveCompletion l) := by
  unfold State.waveCompletion
  split
  · dsimp only
    split
    · exact closed.trans (closed.updLine s l _) (closed.offer _ _ _)
    · exact closed.updLine s l _
  · exact closed.refl s

theorem calStepStart : R s s.calStepStart := by
  unfold State.calStepStart
  split
  · exact closed.updLine s _ _
  · exact closed.refl s

theorem calLeadingEdge : R s s.calLeadingEdge := by
  unfold State.calLeadingEdge
  split
  · exact closed.updLine s _ _
  · exact closed.refl s

theorem calTrailingEdge : R s s.calTrailingEdge := by
  unfold State.calTrailingEdge
  split
  · exact closed.updLine s _ _
  · exact closed.refl s

theorem calTrialJudged : R s s.calTrialJudged := by
  unfold State.calTrialJudged
  split
  · exact closed.inside s rfl rfl
  · exact closed.refl s

theorem calStepJudged : R s s.calStepJudged := by
  unfold State.calStepJudged
  split
  · exact closed.inside s rfl rfl
  · exact closed.refl s

theorem calRunEnd : R s s.calRunEnd := by
  unfold State.calRunEnd
  split
  · exact closed.trans (closed.finishRun s _ _ _) (closed.offer _ _ _)
  · exact closed.refl s

theorem trigger (i : Input) (time : TimeValue) : R s (s.trigger i time) := by
  unfold State.trigger
  split_ifs
  · exact closed.trans (closed.firing.triggerAll s i time) (closed.firing.fireCheck _ _ _)
  · exact closed.firing.triggerAll s i time

theorem appendRecord (i : Input) (rising : Bool) (stamp : Stamp) : R s (s.appendRecord i rising stamp) := by
  rw [appendRecord_frame]
  refine closed.background rfl fun p => ?_
  have moved (c : Client) : (s.moved c).csLow = c.csLow ∧ (s.moved c).rstLow = c.rstLow := by
    unfold State.moved
    split
    · exact ⟨rfl, rfl⟩
    · split_ifs <;> exact ⟨rfl, rfl⟩
  rw [each_get]
  split_ifs
  · exact moved _
  · exact moved _

theorem edgeAccepted (i : Input) : R s (s.edgeAccepted i) := by
  unfold State.edgeAccepted
  split
  · exact closed.refl s
  · have accepted (rising : Bool) := closed.inside s
      (t := s.updInput i fun ch => { ch with accepted := rising, ready := none }) rfl rfl
    dsimp only
    split_ifs
    · exact closed.trans (closed.trans (accepted _) (closed.appendRecord _ i _ _)) (closed.trigger _ _ _)
    · exact accepted _

/-! ### A port reset -/

theorem grant (r : Resource) : R s (s.grant r) := by
  have written (c : ClaimRecord) := closed.inside s (t := s.updClaim r fun _ => c) rfl rfl
  unfold State.grant
  split
  · exact written _
  · exact closed.trans (written _) (closed.offer _ _ _)

theorem giveUp (byReset : Bool) (p : Port) (r : Resource) : R s (s.giveUp byReset p r) :=
  closed.trans (closed.cascade s byReset p r) (closed.grant _ r)

theorem releaseHeld (p : Port) (r : Resource) : R s (s.releaseHeld p r) := by
  unfold State.releaseHeld
  split_ifs
  · exact closed.giveUp s true p r
  · exact closed.refl s

theorem leaveLists (p : Port) : R s (s.leaveLists p) := by
  have written (claims : Vector ClaimRecord 17) := closed.inside s (t := { s with claims := claims }) rfl rfl
  exact written _

theorem releaseAll (p : Port) : R s (s.releaseAll p) :=
  closed.trans (closed.firing.foldl (fun s r => closed.releaseHeld s p r) _ s) (closed.leaveLists _ p)

theorem abortOwn (p : Port) : R s (s.abortOwn p) := by
  unfold State.abortOwn
  split
  · split_ifs
    · exact closed.abortCalibration s _
    · exact closed.refl s
  · exact closed.refl s

theorem clearPort (p : Port) : R s (s.clearPort p) :=
  closed.background rfl fun q => by
    rw [State.clearPort, State.updPort_ports, upd_get]
    split_ifs with same
    · subst same
      exact ⟨rfl, rfl⟩
    · exact ⟨rfl, rfl⟩

theorem portReset (p : Port) : R s (s.portReset p) :=
  closed.trans (closed.trans (closed.trans (closed.releaseAll s p) (closed.firing.removeEntries _ _))
    (closed.abortOwn _ p)) (closed.clearPort _ p)

/-! ### The due steps -/

theorem perform {e : Event} (ne : e ≠ .refpEdge) : R s (s.perform e) := by
  cases e with
  | slewDone => exact closed.broadcast s _
  | windowEnd => exact closed.windowEnd s
  | crossing => exact closed.crossing s
  | pulseEnd l => exact closed.updLine s l _
  | waveHighEnd l => exact closed.updLine s l _
  | waveCycleEnd l => exact closed.updLine s l _
  | waveCompletion l => exact closed.waveCompletion s l
  | calStepStart => exact closed.calStepStart s
  | calLeadingEdge => exact closed.calLeadingEdge s
  | calTrialJudged => exact closed.calTrialJudged s
  | calTrailingEdge => exact closed.calTrailingEdge s
  | calStepJudged => exact closed.calStepJudged s
  | calRunEnd => exact closed.calRunEnd s
  | edgeAccepted i => exact closed.edgeAccepted s i
  | refpEdge => exact (ne rfl).elim
  | portResetTaken p => exact closed.portReset s p

/-- A relation that respects a change of the time value respects a REFP edge too. -/
theorem refpEdge (timed : ∀ (s : State) t, R s { s with time := t }) : R s s.refpEdge := by
  obtain ⟨-, eq⟩ | ⟨-, eq⟩ | ⟨-, r, ns, -, eq⟩ := refpEdge_cases s
  · rw [eq]
    exact closed.refl s
  · rw [eq]
    exact closed.inside s rfl rfl
  · rw [eq]
    have aligned : R s (s.aligned r) := closed.trans (timed s _) (closed.inside _ rfl rfl)
    have told : R s (ns.foldl State.broadcast (s.aligned r)) :=
      closed.trans aligned (closed.firing.foldl (fun s n => closed.broadcast s n) ns _)
    unfold State.checkForward
    split_ifs
    · exact closed.trans told (closed.firing.fireCheck _ _ _)
    · exact told

theorem performAny (timed : ∀ (s : State) t, R s { s with time := t }) (e : Event) : R s (s.perform e) := by
  by_cases edge : e = .refpEdge
  · rw [edge]
    exact closed.refpEdge s timed
  · exact closed.perform s edge

end StepClosed

/-! ### The counters of the timebase -/

/-- The supplies and what the prescaler and the TBU count stand as before. -/
structure State.KeepsClock (s t : State) : Prop where
  vddm : t.vddm = s.vddm
  vddr : t.vddr = s.vddr
  nrstLow : t.nrstLow = s.nrstLow
  prescaler : t.prescaler = s.prescaler
  time : t.time = s.time
  timebase : t.timebase = s.timebase
  position : t.position = s.position
  windowTrim : t.windowTrim = s.windowTrim
  slew : t.slew = s.slew
  tickTime : t.tickTime = s.tickTime

theorem State.KeepsClock.of_eq {s t : State}
    (h : { t with trim := s.trim, rdu := s.rdu, claims := s.claims, slots := s.slots, gens := s.gens
                  dueOrder := s.dueOrder, lines := s.lines, inputs := s.inputs, log := s.log, nextSeq := s.nextSeq
                  marker := s.marker, calRun := s.calRun, results := s.results, ports := s.ports, work := s.work
                  pending := s.pending } = s) : s.KeepsClock t := by
  constructor <;> rw [← h]

theorem State.KeepsClock.trans {s t u : State} (h : s.KeepsClock t) (k : t.KeepsClock u) : s.KeepsClock u :=
  ⟨k.vddm.trans h.vddm, k.vddr.trans h.vddr, k.nrstLow.trans h.nrstLow, k.prescaler.trans h.prescaler,
    k.time.trans h.time, k.timebase.trans h.timebase, k.position.trans h.position, k.windowTrim.trans h.windowTrim,
    k.slew.trans h.slew, k.tickTime.trans h.tickTime⟩

theorem keepsClock_closed : StepClosed State.KeepsClock where
  refl _ := .of_eq rfl
  trans := .trans
  offer _ _ _ := .of_eq rfl
  finishRun _ _ _ _ := .of_eq rfl
  cancelTimer _ _ := .of_eq rfl
  updLine _ _ _ := .of_eq rfl
  table _ _ _ _ := .of_eq rfl
  background h _ := .of_eq (by rw [← h])

variable {s : State}

theorem takeOne_keepsClock (s : State) {e : Event} (ne : e ≠ .refpEdge) : s.KeepsClock (s.takeOne e) := by
  unfold State.takeOne
  split_ifs
  · exact (State.KeepsClock.of_eq rfl).trans (keepsClock_closed.perform _ ne)
  · exact keepsClock_closed.refl s

theorem takeAll_keepsClock : ∀ (es : List Event) (s : State), (∀ e ∈ es, e ≠ .refpEdge) →
    s.KeepsClock (es.foldl State.takeOne s)
  | [], s, _ => keepsClock_closed.refl s
  | e :: es, s, ne => (takeOne_keepsClock s (ne e List.mem_cons_self)).trans
      (takeAll_keepsClock es _ fun d mem => ne d (List.mem_cons_of_mem e mem))

theorem endJudgedRun_keepsClock (s : State) : s.KeepsClock s.endJudgedRun := by
  unfold State.endJudgedRun
  split_ifs
  · exact takeOne_keepsClock s Event.noConfusion
  · exact keepsClock_closed.refl s

/-- A REFP edge comes before no other step. -/
theorem refpEdge_not_before (e : Event) : ∀ d ∈ stepsBefore e, d ≠ .refpEdge := by
  intro d mem
  cases e <;> simp [stepsBefore] at mem
  case edgeAccepted i =>
    obtain ⟨j, -, rfl⟩ := mem
    exact Event.noConfusion
  all_goals
    rw [mem]
    exact Event.noConfusion

theorem takeEvent_keepsClock (s : State) {e : Event} (ne : e ≠ .refpEdge) : s.KeepsClock (s.takeEvent e) := by
  unfold State.takeEvent State.prepare
  split_ifs
  · exact ((endJudgedRun_keepsClock s).trans (takeAll_keepsClock _ _ (refpEdge_not_before e))).trans
      (takeOne_keepsClock _ ne)
  · exact (takeAll_keepsClock _ _ (refpEdge_not_before e)).trans (takeOne_keepsClock _ ne)
  · exact keepsClock_closed.refl s

theorem takeEvents_keepsClock : ∀ (es : List Event) (s : State), (∀ e ∈ es, e ≠ .refpEdge) →
    s.KeepsClock (es.foldl State.takeEvent s)
  | [], s, _ => keepsClock_closed.refl s
  | e :: es, s, ne => (takeEvent_keepsClock s (ne e List.mem_cons_self)).trans
      (takeEvents_keepsClock es _ fun d mem => ne d (List.mem_cons_of_mem e mem))

theorem fireCheck_keepsClock (s : State) (wrapped : Bool) (now : TimeValue) : s.KeepsClock (s.fireCheck wrapped now) :=
  keepsClock_closed.firing.fireCheck s wrapped now

/-! ### The steps still due -/

/-- A step that the counting of a line's timer makes due: the only ones that another step can discard (R118). -/
def OfTimer (e : Event) : Prop := ∃ l, isTimerStep l e = true

/-- Every step that was due is due still, but for those of timers. -/
def State.StayDue (s t : State) : Prop := ∀ e : Event, ¬OfTimer e → e ∈ s.work → e ∈ t.work

theorem stayDue_closed : StepClosed State.StayDue where
  refl _ _ _ due := due
  trans h k e other due := k e other (h e other due)
  offer _ _ _ _ _ due := due
  finishRun _ _ _ _ _ _ due := due
  cancelTimer s l e other due := List.mem_filter.mpr ⟨due, by
    rw [Bool.eq_false_iff.mpr fun timer => other ⟨l, timer⟩]
    rfl⟩
  updLine _ _ _ _ _ due := due
  table _ _ _ _ _ _ due := due
  background h _ e _ due := by
    rw [← h] at due
    exact due

theorem perform_stayDue (s : State) (e : Event) : s.StayDue (s.perform e) :=
  stayDue_closed.performAny s (fun _ _ _ _ due => due) e

/-- Taking a step leaves every other step due, but for those of timers. -/
theorem mem_takeOne {d e : Event} (other : ¬OfTimer d) (ne : d ≠ e) : d ∈ (s.takeOne e).work ↔ d ∈ s.work := by
  refine ⟨fun due => (State.takeOne_dues s e).subset due, fun due => ?_⟩
  unfold State.takeOne
  split_ifs
  · exact perform_stayDue _ e d other (List.mem_filter.mpr ⟨due, by simp [ne]⟩)
  · exact due

theorem mem_takeAll {d : Event} (other : ¬OfTimer d) : ∀ (es : List Event) (s : State), d ∉ es →
    (d ∈ (es.foldl State.takeOne s).work ↔ d ∈ s.work)
  | [], _, _ => Iff.rfl
  | e :: es, s, out => by
    obtain ⟨ne, out'⟩ := not_or.mp (List.mem_cons.not.mp out)
    exact (mem_takeAll other es _ out').trans (mem_takeOne other ne)

theorem not_ofTimer_refpEdge : ¬OfTimer .refpEdge := fun ⟨_, timer⟩ => Bool.false_ne_true timer

/-! ### The pins of the ports -/

theorem pinsKept_closed : StepClosed State.PinsKept where
  refl _ _ := ⟨rfl, rfl⟩
  trans h k p := ⟨(k p).1.trans (h p).1, (k p).2.trans (h p).2⟩
  offer s p n := (State.offer_kept s p n).pins
  finishRun _ _ _ _ _ := ⟨rfl, rfl⟩
  cancelTimer _ _ _ := ⟨rfl, rfl⟩
  updLine _ _ _ _ := ⟨rfl, rfl⟩
  table _ _ _ _ _ := ⟨rfl, rfl⟩
  background _ pins := pins

theorem takeAll_pinsKept (es : List Event) (s : State) : s.PinsKept (es.foldl State.takeOne s) :=
  pinsKept_closed.firing.foldl (fun s e => by
    unfold State.takeOne
    split_ifs
    · exact pinsKept_closed.performAny _ (fun _ _ _ => ⟨rfl, rfl⟩) e
    · exact pinsKept_closed.refl s) es s

theorem settle_pinsKept (s : State) : s.PinsKept s.settle := takeAll_pinsKept s.work s

end Sys2Proof.Machine
end

section
/-! SUPPORT. The prescaler tick: the trim positions, the counting of the TBU, and the tick around it (R1, R4, R12 to R17). -/

namespace Sys2Proof.Machine

open Sys2Proof.Safety

variable {s : State}

/-! ### Binary digits in the opposite order (R14) -/

/-- The lowest n binary digits of j, read in the opposite order. -/
def reverseBits (n j : Nat) : Nat := (List.range n).foldl (fun r k => 2 * r + bit (j.testBit k)) 0

theorem bitReverse10_eq (j : Nat) : bitReverse10 j = reverseBits 10 j := rfl

theorem reverseBits_succ (n j : Nat) : reverseBits (n + 1) j = 2 * reverseBits n j + bit (j.testBit n) := by
  rw [reverseBits, List.range_succ, List.foldl_append]
  rfl

theorem bit_le_one (b : Bool) : bit b ≤ 1 := by cases b <;> decide

theorem reverseBits_lt (n j : Nat) : reverseBits n j < 2 ^ n := by
  induction n with
  | zero => exact Nat.one_pos
  | succ n ih =>
    have := bit_le_one (j.testBit n)
    rw [reverseBits_succ, Nat.pow_succ]
    omega

theorem testBit_double_bit (r : Nat) (b : Bool) (k : Nat) :
    (2 * r + bit b).testBit k = if k = 0 then b else r.testBit (k - 1) := by
  cases k with
  | zero => cases b <;> simp [bit, Nat.testBit_zero]
  | succ k =>
    have half : (2 * r + bit b) / 2 = r := by
      have := bit_le_one b
      omega
    rw [Nat.testBit_succ, half]
    rfl

theorem testBit_reverseBits (n j k : Nat) : (reverseBits n j).testBit k = (decide (k < n) && j.testBit (n - 1 - k)) := by
  induction n generalizing k with
  | zero =>
    change Nat.testBit 0 k = _
    simp
  | succ n ih =>
    rw [reverseBits_succ, testBit_double_bit]
    cases k with
    | zero => simp
    | succ k =>
      rw [if_neg (Nat.succ_ne_zero k), Nat.add_sub_cancel, ih, Nat.add_sub_cancel, Nat.sub_sub, Nat.add_comm 1 k]
      simp

/-- The digits of a number of n digits, reversed twice. -/
theorem reverseBits_reverseBits {n j : Nat} (small : j < 2 ^ n) : reverseBits n (reverseBits n j) = j := by
  refine Nat.eq_of_testBit_eq fun k => ?_
  rw [testBit_reverseBits, testBit_reverseBits]
  by_cases inside : k < n
  · have back : n - 1 - (n - 1 - k) = k := by omega
    have inside' : n - 1 - k < n := by omega
    simp [inside, inside', back]
  · have high : j.testBit k = false :=
      Nat.testBit_lt_two_pow (small.trans_le (Nat.pow_le_pow_right Nat.two_pos (Nat.not_lt.mp inside)))
    simp [inside, high]

theorem reverseBits_perm (n : Nat) : ((List.range (2 ^ n)).map (reverseBits n)).Perm (List.range (2 ^ n)) := by
  refine (List.perm_ext_iff_of_nodup ?_ List.nodup_range).mpr fun x => ?_
  · refine List.Nodup.map_on (fun a ha b hb eq => ?_) List.nodup_range
    rw [← reverseBits_reverseBits (List.mem_range.mp ha), eq, reverseBits_reverseBits (List.mem_range.mp hb)]
  · rw [List.mem_map, List.mem_range]
    constructor
    · rintro ⟨j, -, rfl⟩
      exact reverseBits_lt n j
    · exact fun small => ⟨reverseBits n x, List.mem_range.mpr (reverseBits_lt n x), reverseBits_reverseBits small⟩

theorem countP_lt_range (w n : Nat) : (List.range n).countP (fun j => decide (j < w)) = min w n := by
  induction n with
  | zero => exact (Nat.min_zero w).symm
  | succ n ih =>
    rw [List.range_succ, List.countP_append, ih]
    by_cases below : n < w
    · simp [below]
      omega
    · simp [below]
      omega

/-- Settles O23. -/
theorem trimSpreads : Obligations.TrimSpreads := by
  refine ⟨fun j k _ digit => ?_, fun j => reverseBits_lt 10 j, fun w le => ?_⟩
  · rw [bitReverse10_eq, testBit_reverseBits, decide_eq_true digit, Bool.true_and]
  · calc ((List.range 1024).filter fun j => decide (bitReverse10 j < w)).length
        = ((List.range (2 ^ 10)).map (reverseBits 10)).countP (fun j => decide (j < w)) := by
          rw [← List.countP_eq_length_filter, List.countP_map]
          rfl
      _ = (List.range (2 ^ 10)).countP (fun j => decide (j < w)) := (reverseBits_perm 10).countP_eq _
      _ = w := (countP_lt_range w _).trans (Nat.min_eq_left le)

/-! ### The counting (R4, R12 to R17) -/

theorem windowTrimNow_eq (s : State) : s.windowTrimNow = if s.position.toNat = 0 then s.trim else s.windowTrim :=
  if_congr (BitVec.toNat_inj (y := 0)).symm rfl rfl

theorem isTrimPosition_iff {p : Nat} {w : Int} :
    isTrimPosition p w = true ↔ p % 16384 = 0 ∧ bitReverse10 (p / 16384) < w.natAbs := decide_eq_true_iff

section
variable (trims : isTrimPosition s.position.toNat s.windowTrimNow = true)

include trims

/-- A trim position is no slew position (R4). -/
theorem slewActs_of_trim : s.slewActs = false := by rw [State.slewActs, trims, Bool.not_true, Bool.false_and, Bool.false_and]

theorem tickStep_of_trim : s.tickStep = if 0 < s.windowTrimNow then 2 else 0 := by rw [State.tickStep, if_pos trims]

end

section
variable (plain : isTrimPosition s.position.toNat s.windowTrimNow = false)

include plain

theorem slewActs_of_plain : s.slewActs = true ↔ s.position.toNat % 16 = 8 ∧ s.slew ≠ 0 := by
  rw [State.slewActs, plain, Bool.not_false, Bool.true_and, Bool.and_eq_true, bne_iff_ne]
  exact and_congr_left' decide_eq_true_iff

theorem tickStep_of_plain : s.tickStep = if s.slewActs then (if 0 < s.slew then 2 else 0) else 1 := by
  rw [State.tickStep, if_neg (by rw [plain]; exact Bool.false_ne_true)]

end

theorem add_step_zero (t : TimeValue) : t + BitVec.ofNat 52 0 = t := BitVec.add_zero t

/-- What the counting of a RUNNING timebase does to the time value and the slew remainder, case by case (R4). -/
theorem countTick_counts (running : s.running = true) :
    let p := s.position.toNat
    let w := s.windowTrimNow
    let trims : Prop := p % 16384 = 0 ∧ bitReverse10 (p / 16384) < w.natAbs
    let slews : Prop := p % 16 = 8 ∧ s.slew ≠ 0
    s.countTick.position = s.position + 1 ∧ s.countTick.windowTrim = w
      ∧ (trims → 0 < w → s.countTick.time = s.time + 2) ∧ (trims → w < 0 → s.countTick.time = s.time)
      ∧ (slews → 0 < s.slew → s.countTick.time = s.time + 2 ∧ s.countTick.slew = s.slew - 1)
      ∧ (slews → s.slew < 0 → s.countTick.time = s.time ∧ s.countTick.slew = s.slew + 1)
      ∧ (¬trims → ¬slews → s.countTick.time = s.time + 1) ∧ (¬slews → s.countTick.slew = s.slew) := by
  intro p w trims slews
  have time : s.countTick.time = s.time + BitVec.ofNat 52 s.tickStep := by rw [countTick_of_running running]
  have slew : s.countTick.slew = if s.slewActs then towardsZero s.slew else s.slew := by rw [countTick_of_running running]
  have apart : slews → isTrimPosition p w = false := fun at_slew => by
    obtain ⟨eight, -⟩ := at_slew
    refine decide_eq_false fun at_trim => ?_
    have zero := at_trim.1
    omega
  have acts : slews → s.slewActs = true := fun at_slew => (slewActs_of_plain (apart at_slew)).mpr at_slew
  have rests : ¬slews → s.slewActs = false := fun off => by
    cases here : isTrimPosition p w with
    | true => exact slewActs_of_trim here
    | false => exact Bool.eq_false_iff.mpr fun acts => off ((slewActs_of_plain here).mp acts)
  refine ⟨by rw [countTick_of_running running], by rw [countTick_of_running running], fun at_trim up => ?_,
    fun at_trim down => ?_, fun at_slew up => ⟨?_, ?_⟩, fun at_slew down => ⟨?_, ?_⟩, fun no_trim no_slew => ?_,
    fun no_slew => ?_⟩
  · rw [time, tickStep_of_trim (isTrimPosition_iff.mpr at_trim), if_pos up]
    rfl
  · rw [time, tickStep_of_trim (isTrimPosition_iff.mpr at_trim), if_neg (not_lt.mpr down.le), add_step_zero]
  · rw [time, tickStep_of_plain (apart at_slew), if_pos (acts at_slew), if_pos up]
    rfl
  · rw [slew, if_pos (acts at_slew), towardsZero, if_pos up]
  · rw [time, tickStep_of_plain (apart at_slew), if_pos (acts at_slew), if_neg (not_lt.mpr down.le), add_step_zero]
  · rw [slew, if_pos (acts at_slew), towardsZero, if_neg (not_lt.mpr down.le), if_pos down]
  · have plain : isTrimPosition p w = false := Bool.eq_false_iff.mpr fun here => no_trim (isTrimPosition_iff.mp here)
    rw [time, tickStep_of_plain plain, rests no_slew]
    rfl
  · rw [slew, rests no_slew]
    rfl

/-! ### The tick around the counting -/

/-- The timers of a tick, as a change of the lines. -/
theorem timerTick_eq (s : State) : s.timerTick = { s with
    lines := if s.running then each s.lines fun l ln => ln.timerTick l else s.lines } := by
  unfold State.timerTick
  split_ifs <;> rfl

/-- The RDU after its part of a tick (R23, R31). -/
def State.tickedRdu (s : State) (refp : Bool) : Rdu := (s.countTick.rduTick s refp).rdu

/-- The inputs after their samples of a tick (R124, R125). -/
def State.sampledInputs (s : State) (samples : TickInput) : Vector Channel 8 :=
  ((s.countTick.rduTick s samples.refp).sampleInputs samples).inputs

/-- What a tick changes beside its counting, block by block (R1). -/
theorem countAll_eq (s : State) (samples : TickInput) : s.countAll samples = { s.countTick with
    rdu := s.tickedRdu samples.refp
    inputs := s.sampledInputs samples
    lines := if s.countTick.running then each s.countTick.lines fun l ln => ln.timerTick l else s.countTick.lines
    calRun := s.countTick.calRun.map CalRun.tick
    work := (s.countAll samples).work } := by
  unfold State.countAll
  rw [timerTick_eq]
  rfl

theorem keepsClock_of_blocks (s : State) (rdu : Rdu) (inputs : Vector Channel 8) (lines : Vector LineUnit 8)
    (calRun : Option CalRun) (work : List Event) :
    s.KeepsClock { s with rdu := rdu, inputs := inputs, lines := lines, calRun := calRun, work := work } := .of_eq rfl

/-- What the samples, the timers and the engine of a tick leave of its counting. -/
theorem countAll_keepsClock (s : State) (samples : TickInput) : s.countTick.KeepsClock (s.countAll samples) := by
  rw [countAll_eq]
  exact keepsClock_of_blocks _ _ _ _ _ _

theorem mayPrecedeCheck_ne {e : Event} (may : mayPrecedeCheck e = true) : e ≠ .refpEdge := fun eq => by
  subst eq
  exact Bool.false_ne_true may

/-- Behind the counting no step of a tick touches the counters, when no REFP edge is left for after the count. -/
theorem mainTick_keepsClock (samples : TickInput) (order : TickOrder) (none_left : Event.refpEdge ∉ s.work) :
    (s.placePins.countAll samples).KeepsClock (s.mainTick samples order) := by
  have told (u : State) : u.KeepsClock (u.tellSlewDone s) := by
    unfold State.tellSlewDone
    split_ifs
    · exact takeOne_keepsClock u Event.noConfusion
    · exact keepsClock_closed.refl u
  have checked (u : State) : u.KeepsClock (u.advanceCheck s) := by
    unfold State.advanceCheck
    split_ifs
    · exact fireCheck_keepsClock u _ _
    · exact keepsClock_closed.refl u
  have early (u : State) := takeEvents_keepsClock (order.early.filter mayPrecedeCheck) u fun e mem =>
    mayPrecedeCheck_ne (List.mem_filter.mp mem).2
  have last : ¬(order.refpAfter && s.work.contains .refpEdge) = true := by simp [none_left]
  unfold State.mainTick
  dsimp only
  rw [if_neg last]
  exact (((told _).trans (early _)).trans (endJudgedRun_keepsClock _)).trans (checked _)

theorem settleBut_of_not_due (none_due : Event.refpEdge ∉ s.work) : s.settleBut .refpEdge = s.settle := by
  have whole : (s.work.filter fun d => d != .refpEdge) = s.work :=
    List.filter_eq_self.mpr fun d mem => bne_iff_ne.mpr fun eq => none_due (eq ▸ mem)
  rw [State.settleBut, whole]
  rfl

/-- A tick with no REFP edge left from the tick before. -/
theorem prescalerTick_of_not_due (samples : TickInput) (order : TickOrder) (none_due : Event.refpEdge ∉ s.work) :
    s.prescalerTick samples order = if s.settle.active then s.settle.mainTick samples order
      else if s.settle.vddr then s.settle.countTick else s.settle := by
  rw [State.prescalerTick, settleBut_of_not_due none_due, ite_self]

/-- Settles O21. -/
theorem tickCounts : Obligations.TickCounts := by
  intro samples order s none_due active t p w trims slews
  refine ⟨t.mainTick samples order, ?_, ?_⟩
  · change Host.Outcome.next _ = _
    rw [prescalerTick_of_not_due samples order none_due, if_pos active]
  have due : Event.refpEdge ∉ t.work := by
    rw [State.settle_work]
    exact List.not_mem_nil
  have kept := (countAll_keepsClock t.placePins samples).trans (mainTick_keepsClock samples order due)
  have window : t.windowTrimNow = w := windowTrimNow_eq t
  rw [kept.prescaler, kept.time, kept.timebase, kept.position, kept.windowTrim, kept.slew]
  cases running : t.running with
  | false =>
    have stopped : t.timebase ≠ .running := of_decide_eq_false running
    have counted : t.placePins.countTick = { t.placePins with prescaler := 0, tickTime := t.time } :=
      countTick_of_not_running running
    rw [counted]
    exact ⟨rfl, rfl, fun is => (stopped is).elim, fun _ => ⟨rfl, rfl, rfl, rfl⟩⟩
  | true =>
    have runs : t.timebase = .running := of_decide_eq_true running
    have counts := countTick_counts (s := t.placePins) running
    have fields : t.placePins.countTick.prescaler = 0 ∧ t.placePins.countTick.timebase = t.timebase := by
      rw [countTick_of_running (s := t.placePins) running]
      exact ⟨rfl, rfl⟩
    refine ⟨fields.1, fields.2, fun _ => ?_, fun stopped => (stopped runs).elim⟩
    have same : t.placePins.windowTrimNow = w := window
    rw [same] at counts
    exact counts

/-- Settles O22. -/
theorem tickWithoutMainDomain : Obligations.TickWithoutMainDomain := by
  intro samples order s idle
  have ticked : exec (.prescalerTick samples order) s = .next (if s.active then s.mainTick samples order
      else if s.vddr then s.countTick else s) := by
    change Host.Outcome.next _ = _
    rw [prescalerTick_of_not_due samples order (by rw [idle]; exact List.not_mem_nil), State.settle_of_idle idle]
  rw [ticked]
  refine ⟨fun off => ?_, fun on alone stopped => ?_, fun on alone runs still => ?_⟩
  · have inactive : s.active = false := by rw [State.active, off, Bool.and_false, Bool.false_and]
    rw [inactive, off]
    rfl
  · rw [if_neg (by rw [alone]; exact Bool.false_ne_true), if_pos on]
    exact congrArg _ (countTick_of_not_running (decide_eq_false stopped))
  · intro p w now
    have running : s.running = true := decide_eq_true runs
    have window : s.windowTrimNow = w := windowTrimNow_eq s
    have rests : s.slewActs = false := by rw [State.slewActs, still]; simp
    have counted : s.time + BitVec.ofNat 52 s.tickStep = now := by
      by_cases here : p % 16384 = 0 ∧ bitReverse10 (p / 16384) < w.natAbs
      · have trims : isTrimPosition s.position.toNat s.windowTrimNow = true := isTrimPosition_iff.mpr (window ▸ here)
        rw [tickStep_of_trim trims, window]
        refine Eq.trans ?_ (if_pos here).symm
        split_ifs
        · rfl
        · exact add_step_zero _
      · have plain : isTrimPosition s.position.toNat s.windowTrimNow = false :=
          Bool.eq_false_iff.mpr fun trims => here (window ▸ isTrimPosition_iff.mp trims)
        rw [tickStep_of_plain plain, rests]
        exact (if_neg here).symm
    rw [if_neg (by rw [alone]; exact Bool.false_ne_true), if_pos on, countTick_of_running running, rests, counted, window]
    rfl

end Sys2Proof.Machine
end

section
/-! SUPPORT. The course of a tick, the steps it makes due, and its samples and timers (R5, R23, R31, R108 to R114, R124 to R126,
R146, R148). -/

namespace Sys2Proof.Machine

open Sys2Proof.Safety

variable {s : State}

/-! ### The course of a tick -/

theorem tickStep_le (s : State) : s.tickStep ≤ 2 := by
  unfold State.tickStep
  split_ifs <;> omega

theorem countTick_tickTime (s : State) : s.countTick.tickTime = s.countTick.time := by
  cases running : s.running with
  | false => rw [countTick_of_not_running running]
  | true => rw [countTick_of_running running]

/-- The tick is an advance when it changes the time value (R5). -/
theorem advances_iff (s : State) : s.advances = true ↔ s.countTick.time ≠ s.time := by
  rw [State.advances]
  cases running : s.running with
  | false =>
    rw [countTick_of_not_running running]
    exact ⟨fun h => absurd h Bool.false_ne_true, fun h => absurd rfl h⟩
  | true =>
    rw [countTick_of_running running, Bool.true_and, bne_iff_ne]
    refine not_congr ⟨fun zero => by rw [zero]; exact add_step_zero s.time, fun same => ?_⟩
    have small := tickStep_le s
    have value := congrArg BitVec.toNat same
    rw [BitVec.toNat_add, BitVec.toNat_ofNat] at value
    have := s.time.isLt
    omega

theorem advances_counted (s : State) (samples : TickInput) :
    s.advances = true ↔ (s.placePins.countAll samples).time ≠ s.time := by
  rw [(countAll_keepsClock s.placePins samples).time]
  exact advances_iff s.placePins

theorem counted_tickTime (s : State) (samples : TickInput) : (s.countAll samples).tickTime = (s.countAll samples).time := by
  have kept := countAll_keepsClock s samples
  rw [kept.tickTime, kept.time, countTick_tickTime]

theorem runEnding_iff : s.runEnding = true ↔ Event.calRunEnd ∈ s.work ∧ Event.calStepJudged ∉ s.work := by
  rw [State.runEnding, Bool.and_eq_true, List.contains_iff_mem, Bool.not_eq_true', ← Bool.not_eq_true, List.contains_iff_mem]

theorem tellSlewDone_eq (s : State) (samples : TickInput) : (s.placePins.countAll samples).tellSlewDone s =
    if (s.placePins.countAll samples).time = s.time then s.placePins.countAll samples
    else (s.placePins.countAll samples).takeOne .slewDone := by
  unfold State.tellSlewDone
  by_cases same : (s.placePins.countAll samples).time = s.time
  · rw [if_pos same, if_neg fun advances => (advances_counted s samples).mp advances same]
  · rw [if_neg same, if_pos ((advances_counted s samples).mpr same)]

theorem advanceCheck_eq {u : State} (samples : TickInput) (kept : (s.placePins.countAll samples).KeepsClock u) :
    u.advanceCheck s = if (s.placePins.countAll samples).time = s.time then u
      else u.fireCheck (decide ((s.placePins.countAll samples).time.toNat < s.time.toNat))
        (s.placePins.countAll samples).time := by
  unfold State.advanceCheck
  rw [kept.tickTime, counted_tickTime]
  by_cases same : (s.placePins.countAll samples).time = s.time
  · rw [if_pos same, if_neg fun advances => (advances_counted s samples).mp advances same]
  · rw [if_neg same, if_pos ((advances_counted s samples).mpr same)]

/-- The tick up to its firing check: all of it but a REFP edge left for after the count. -/
def State.checkedTick (s : State) (samples : TickInput) (early : List Event) : State :=
  (early.foldl State.takeEvent ((s.placePins.countAll samples).tellSlewDone s)).endJudgedRun.advanceCheck s

theorem tellSlewDone_keepsClock (u before : State) : u.KeepsClock (u.tellSlewDone before) := by
  unfold State.tellSlewDone
  split_ifs
  · exact takeOne_keepsClock u Event.noConfusion
  · exact keepsClock_closed.refl u

theorem mainTick_eq (s : State) (samples : TickInput) {early : List Event} (may : ∀ e ∈ early, mayPrecedeCheck e = true)
    (after : Bool) : s.mainTick samples { early := early, refpAfter := after } =
      if after && s.work.contains .refpEdge then (s.checkedTick samples early).takeOne .refpEdge
      else s.checkedTick samples early := by
  have all : early.filter mayPrecedeCheck = early := List.filter_eq_self.mpr may
  unfold State.mainTick State.checkedTick
  dsimp only
  rw [all]

/-! ### A REFP edge left for after the count stays due -/

theorem stayDue_trans {s t u : State} (h : s.StayDue t) (k : t.StayDue u) : s.StayDue u := stayDue_closed.trans h k

theorem refpEdge_takeOne {e : Event} (ne : e ≠ .refpEdge) (due : Event.refpEdge ∈ s.work) :
    Event.refpEdge ∈ (s.takeOne e).work := (mem_takeOne not_ofTimer_refpEdge ne.symm).mpr due

theorem refpEdge_endJudgedRun (due : Event.refpEdge ∈ s.work) : Event.refpEdge ∈ s.endJudgedRun.work := by
  unfold State.endJudgedRun
  split_ifs
  · exact refpEdge_takeOne Event.noConfusion due
  · exact due

theorem refpEdge_takeEvent {e : Event} (ne : e ≠ .refpEdge) (due : Event.refpEdge ∈ s.work) :
    Event.refpEdge ∈ (s.takeEvent e).work := by
  have before {u : State} : Event.refpEdge ∈ u.work → Event.refpEdge ∈ ((stepsBefore e).foldl State.takeOne u).work :=
    (mem_takeAll not_ofTimer_refpEdge (stepsBefore e) u fun mem => refpEdge_not_before e _ mem rfl).mpr
  unfold State.takeEvent State.prepare
  split_ifs
  · exact refpEdge_takeOne ne (before (refpEdge_endJudgedRun due))
  · exact refpEdge_takeOne ne (before due)
  · exact due

theorem refpEdge_takeEvents : ∀ (es : List Event) (s : State), (∀ e ∈ es, e ≠ .refpEdge) → Event.refpEdge ∈ s.work →
    Event.refpEdge ∈ (es.foldl State.takeEvent s).work
  | [], _, _, due => due
  | e :: es, _, ne, due => refpEdge_takeEvents es _ (fun d mem => ne d (List.mem_cons_of_mem e mem))
      (refpEdge_takeEvent (ne e List.mem_cons_self) due)

theorem countAll_work (s : State) (samples : TickInput) : (s.countAll samples).work =
    s.work ++ (s.countAll samples).tickWork s (s.detects samples.refp) := by
  have kept : s.countTick.work = s.work := by
    cases running : s.running with
    | false => rw [countTick_of_not_running running]
    | true => rw [countTick_of_running running]
  unfold State.countAll
  rw [timerTick_eq]
  exact congrArg (· ++ _) kept

theorem refpEdge_checkedTick (samples : TickInput) {early : List Event} (ne : ∀ e ∈ early, e ≠ .refpEdge)
    (due : Event.refpEdge ∈ s.work) : Event.refpEdge ∈ (s.checkedTick samples early).work := by
  have counted : Event.refpEdge ∈ (s.placePins.countAll samples).work := by
    rw [countAll_work]
    exact List.mem_append_left _ due
  have told : Event.refpEdge ∈ ((s.placePins.countAll samples).tellSlewDone s).work := by
    unfold State.tellSlewDone
    split_ifs
    · exact refpEdge_takeOne Event.noConfusion counted
    · exact counted
  have closed := refpEdge_endJudgedRun (refpEdge_takeEvents early _ ne told)
  unfold State.checkedTick State.advanceCheck
  split_ifs
  · exact stayDue_closed.firing.fireCheck _ _ _ _ not_ofTimer_refpEdge closed
  · exact closed

/-- Settles O42. -/
theorem tickRuns : Obligations.TickRuns := by
  intro samples early s free checked
  have ne : ∀ e ∈ early, e ≠ .refpEdge := fun e mem => (free e mem).1
  have may : ∀ e ∈ early, mayPrecedeCheck e = true := fun e mem => by
    obtain ⟨notEdge, notReset⟩ := free e mem
    cases e with
    | refpEdge => exact (notEdge rfl).elim
    | portResetTaken p => exact (notReset p rfl).elim
    | _ => rfl
  have course (t : State) : t.checkedTick samples early = checked t := by
    have kept := (tellSlewDone_keepsClock (t.placePins.countAll samples) t).trans (takeEvents_keepsClock early _ ne)
    have closes (u : State) : u.endJudgedRun = if Event.calRunEnd ∈ u.work ∧ Event.calStepJudged ∉ u.work then
        u.takeOne .calRunEnd else u := if_congr runEnding_iff rfl rfl
    rw [State.checkedTick, advanceCheck_eq samples (kept.trans (endJudgedRun_keepsClock _)), closes, tellSlewDone_eq]
  have ticked (after : Bool) : exec (.prescalerTick samples { early := early, refpAfter := after }) s
      = .next (s.prescalerTick samples { early := early, refpAfter := after }) := rfl
  refine ⟨fun active => ?_, fun none_due => ?_, ?_⟩
  · rw [ticked, State.prescalerTick]
    dsimp only
    rw [if_neg Bool.false_ne_true, if_pos active, mainTick_eq _ samples may, course]
    rfl
  · have nothing : (true && s.settle.work.contains Event.refpEdge) = false := by rw [State.settle_work]; rfl
    rw [ticked, ticked, prescalerTick_of_not_due _ _ none_due, prescalerTick_of_not_due _ _ none_due,
      mainTick_eq _ samples may, mainTick_eq _ samples may, nothing]
    rfl
  · intro due t active
    have left : Event.refpEdge ∈ t.work := (mem_takeAll not_ofTimer_refpEdge _ s (by simp)).mpr due
    have still := refpEdge_checkedTick samples ne left
    have waits : (true && t.work.contains Event.refpEdge) = true := by simpa using left
    rw [ticked, State.prescalerTick]
    change Host.Outcome.next (if t.active then t.mainTick samples { early := early, refpAfter := true } else _) = _
    rw [if_pos active, mainTick_eq _ samples may, if_pos waits, State.takeOne_of_due still, course]

end Sys2Proof.Machine
end

section
/-! SUPPORT. The steps a tick makes due, and the samples and timers of a tick (R23, R31, R108 to R114, R124 to R126, R146, R148). -/

namespace Sys2Proof.Machine

open Sys2Proof.Safety

variable {s : State}

/-! ### The steps of the timers, the engine and the inputs -/

section
variable {ln : LineUnit} {l k : Line}

theorem dueStep_pulseEnd : ln.dueStep l = some (.pulseEnd k) ↔ l = k ∧ ∃ r, ln.activity = .pulsing r ∧ r ≤ 1 := by
  unfold LineUnit.dueStep
  cases ln.activity with
  | steady | calibrating => simp
  | pulsing r => by_cases ends : r ≤ 1 <;> simp [ends]
  | waving c =>
    dsimp only
    split_ifs <;> simp

theorem dueStep_waveHighEnd :
    ln.dueStep l = some (.waveHighEnd k) ↔ l = k ∧ ∃ c, ln.activity = .waving c ∧ c.position + 1 = c.high := by
  unfold LineUnit.dueStep
  cases ln.activity with
  | steady | calibrating => simp
  | pulsing r => by_cases ends : r ≤ 1 <;> simp [ends]
  | waving c =>
    by_cases high : c.position + 1 = c.high
    · simp [high]
    · dsimp only
      rw [if_neg high]
      split_ifs <;> simp [high]

theorem dueStep_waveCycleEnd : ln.dueStep l = some (.waveCycleEnd k) ↔ l = k ∧ ∃ c, ln.activity = .waving c
    ∧ c.position + 1 ≠ c.high ∧ c.period ≤ c.position + 1 ∧ c.left ≠ .finite 1 := by
  unfold LineUnit.dueStep
  cases ln.activity with
  | steady | calibrating => simp
  | pulsing r => by_cases ends : r ≤ 1 <;> simp [ends]
  | waving c =>
    by_cases high : c.position + 1 = c.high
    · simp [high]
    · by_cases cycle : c.period ≤ c.position + 1
      · by_cases last : c.left = .finite 1 <;> simp [high, cycle, last]
      · simp [high, cycle]

theorem dueStep_waveCompletion : ln.dueStep l = some (.waveCompletion k) ↔ l = k ∧ ∃ c, ln.activity = .waving c
    ∧ c.position + 1 ≠ c.high ∧ c.period ≤ c.position + 1 ∧ c.left = .finite 1 := by
  unfold LineUnit.dueStep
  cases ln.activity with
  | steady | calibrating => simp
  | pulsing r => by_cases ends : r ≤ 1 <;> simp [ends]
  | waving c =>
    by_cases high : c.position + 1 = c.high
    · simp [high]
    · by_cases cycle : c.period ≤ c.position + 1
      · by_cases last : c.left = .finite 1 <;> simp [high, cycle, last]
      · simp [high, cycle]

/-- A line makes only steps of its timer due. -/
theorem ofTimer_of_dueStep {e : Event} (due : ln.dueStep l = some e) : OfTimer e := by
  refine ⟨l, ?_⟩
  unfold LineUnit.dueStep at due
  split at due
  · split_ifs at due
    cases due
    exact beq_self_eq_true l
  · split_ifs at due <;> cases due <;> exact beq_self_eq_true l
  · cases due

end

/-- The steps of the engine by its count (R146 to R148). -/
theorem calRun_due_eq (c : CalRun) : c.due =
    (if c.count % 4096 = 0 then [Event.calStepStart] else [])
    ++ (if c.count % 4096 ∈ [256, 1280, 2304, 3328] then [Event.calLeadingEdge] else [])
    ++ (if c.count % 4096 ∈ [258, 1282, 2306, 3330] then [Event.calTrialJudged] else [])
    ++ (if c.count % 4096 ∈ [768, 1792, 2816, 3840] then [Event.calTrailingEdge] else [])
    ++ (if c.count % 4096 = 4095 then [Event.calStepJudged] else [])
    ++ (if c.count % 4096 = 4095 ∧ c.count / 4096 = 15 then [Event.calRunEnd] else []) := by
  have range : c.count % 4096 < 4096 := Nat.mod_lt _ (by omega)
  have quarter (n : Nat) (small : n < 1024) : c.count % 4096 % 1024 = n
      ↔ c.count % 4096 ∈ [n, n + 1024, n + 2048, n + 3072] := by
    simp only [List.mem_cons, List.not_mem_nil, or_false]
    omega
  unfold CalRun.due CalRun.position CalRun.step
  rw [if_congr (quarter 256 (by omega)) rfl rfl, if_congr (quarter 258 (by omega)) rfl rfl,
    if_congr (quarter 768 (by omega)) rfl rfl]
  simp only [List.mem_cons, List.not_mem_nil, or_false]
  generalize c.count % 4096 = at_ at range
  split_ifs <;> first | rfl | omega

/-! ### The steps a tick makes due -/

theorem mem_tickWork {e : Event} {before : State} {detected : Bool} : e ∈ s.tickWork before detected ↔
    (e = .slewDone ∧ before.slew ≠ 0 ∧ s.slew = 0)
    ∨ (e = .windowEnd ∧ before.running = true ∧ before.endsWindow = true)
    ∨ (e = .crossing ∧ before.advances = true ∧ s.rdu.crossingDue = true ∧ s.rdu.narrow < fraction s.time)
    ∨ (before.running = true ∧ ∃ l : Line, before.lines[l].dueStep l = some e)
    ∨ (∃ c, s.calRun = some c ∧ e ∈ c.due)
    ∨ (∃ i : Input, s.inputs[i].ready ≠ none ∧ e = .edgeAccepted i)
    ∨ (e = .refpEdge ∧ detected = true) := by
  have one (d : Event) (p : Prop) [Decidable p] : e ∈ (if p then [d] else []) ↔ e = d ∧ p := by
    by_cases is : p <;> simp [is]
  have timers : e ∈ (if before.running then (List.finRange 8).filterMap fun l : Line => before.lines[l].dueStep l else [])
      ↔ before.running = true ∧ ∃ l : Line, before.lines[l].dueStep l = some e := by
    by_cases is : before.running = true <;> simp [is, List.mem_filterMap]
  have edges : e ∈ (((List.finRange 8).filter fun i => s.inputs[i].ready.isSome).map Event.edgeAccepted)
      ↔ ∃ i : Input, s.inputs[i].ready ≠ none ∧ e = .edgeAccepted i := by
    rw [List.mem_map]
    refine exists_congr fun i => ?_
    rw [List.mem_filter, Option.isSome_iff_ne_none, and_iff_right (List.mem_finRange i), eq_comm (b := e)]
  have engine : e ∈ (match s.calRun with
      | some c => c.due
      | none => []) ↔ ∃ c, s.calRun = some c ∧ e ∈ c.due := by
    cases s.calRun <;> simp
  rw [State.tickWork]
  simp only [List.mem_append, one, timers, edges, or_assoc]
  rw [Bool.and_eq_true, Bool.and_eq_true, Bool.and_eq_true, decide_eq_true_iff, and_assoc]
  refine or_congr_right (or_congr_right (or_congr_right (or_congr_right (or_congr_left ?_))))
  exact engine

theorem not_dueStep {e : Event} (other : ¬OfTimer e) : ¬∃ l : Line, s.lines[l].dueStep l = some e :=
  fun ⟨_, due⟩ => other (ofTimer_of_dueStep due)

theorem mem_tickWork_untimed {e : Event} {before : State} {detected : Bool} (other : ¬OfTimer e) :
    e ∈ s.tickWork before detected ↔
    (e = .slewDone ∧ before.slew ≠ 0 ∧ s.slew = 0)
    ∨ (e = .windowEnd ∧ before.running = true ∧ before.endsWindow = true)
    ∨ (e = .crossing ∧ before.advances = true ∧ s.rdu.crossingDue = true ∧ s.rdu.narrow < fraction s.time)
    ∨ (∃ c, s.calRun = some c ∧ e ∈ c.due)
    ∨ (∃ i : Input, s.inputs[i].ready ≠ none ∧ e = .edgeAccepted i)
    ∨ (e = .refpEdge ∧ detected = true) := by
  rw [mem_tickWork, iff_false_intro (not_dueStep other), and_false, false_or]

theorem mem_tickWork_timed {e : Event} {before : State} {detected : Bool} (timer : OfTimer e) :
    e ∈ s.tickWork before detected
      ↔ before.running = true ∧ ∃ l : Line, before.lines[l].dueStep l = some e := by
  obtain ⟨l, timer⟩ := timer
  rw [mem_tickWork]
  cases e with
  | pulseEnd | waveHighEnd | waveCycleEnd | waveCompletion => simp [calRun_due_eq]
  | _ => exact (Bool.false_ne_true timer).elim

/-- What the counting of a tick leaves. -/
theorem countTick_frame (s : State) : s.countTick = { s with
    prescaler := 0
    time := s.countTick.time
    position := s.countTick.position
    windowTrim := s.countTick.windowTrim
    slew := s.countTick.slew
    tickTime := s.countTick.time } := by
  cases running : s.running with
  | false => rw [countTick_of_not_running running]
  | true => rw [countTick_of_running running]

theorem detects_iff (s : State) (refp : Bool) :
    s.detects refp = true ↔ refp = true ∧ s.rdu.refpSample = false ∧ s.rdu.refpFresh = false := by
  rw [State.detects, Bool.and_eq_true, Bool.and_eq_true, Bool.not_eq_true', Bool.not_eq_true', and_assoc]

/-- A rollover is passed when the seconds of the time value change (R31). -/
theorem passed_eq (s : State) : (s.advances && seconds s.countTick.time != seconds s.time)
    = decide (s.countTick.time.toNat / 2 ^ 20 ≠ s.time.toNat / 2 ^ 20) := by
  have moved : seconds s.countTick.time ≠ seconds s.time → s.advances = true := fun differ =>
    (advances_iff s).mpr fun same => differ (by rw [same])
  rw [Bool.eq_iff_iff, Bool.and_eq_true, bne_iff_ne, decide_eq_true_iff]
  exact ⟨fun both => both.2, fun differ => ⟨moved differ, differ⟩⟩

/-- The RDU after a tick (R23, R31). -/
theorem tickedRdu_eq (s : State) (refp : Bool) : s.tickedRdu refp = { s.rdu with
    refpSample := refp
    refpFresh := false
    crossingDue := s.rdu.crossingDue || decide (s.countTick.time.toNat / 2 ^ 20 ≠ s.time.toNat / 2 ^ 20)
    edgeTime := if refp = true ∧ s.rdu.refpSample = false ∧ s.rdu.refpFresh = false then s.countTick.time
      else s.rdu.edgeTime } := by
  have rdu : s.countTick.rdu = s.rdu := by rw [countTick_frame]
  rw [← passed_eq, ← if_congr (detects_iff s refp) rfl rfl, State.tickedRdu, State.rduTick, rdu, countTick_tickTime]

/-- Settles O43. -/
theorem tickMakesDue : Obligations.TickMakesDue := by
  intro samples s idle u
  have work : u.work = u.tickWork s (s.detects samples.refp) := by
    rw [countAll_work, idle]
    rfl
  have rdu : u.rdu = s.tickedRdu samples.refp := by
    change (s.countAll samples).rdu = _
    rw [countAll_eq]
  have time : u.time = s.countTick.time := (countAll_keepsClock s samples).time
  have running : s.running = true ↔ s.timebase = .running := decide_eq_true_iff
  have window : s.endsWindow = true ↔ s.position = BitVec.allOnes 24 := beq_iff_eq
  have crossing : s.advances = true ∧ u.rdu.crossingDue = true ∧ u.rdu.narrow < fraction u.time
      ↔ u.time ≠ s.time ∧ s.rdu.narrow < u.time.toNat % 2 ^ 20
        ∧ (s.rdu.crossingDue = true ∨ u.time.toNat / 2 ^ 20 ≠ s.time.toNat / 2 ^ 20) := by
    rw [advances_iff, rdu, tickedRdu_eq, ← time, Bool.or_eq_true, decide_eq_true_iff, and_comm (b := _ < _)]
    rfl
  have untimed {e : Event} (other : ¬OfTimer e) := mem_tickWork_untimed (s := u) (before := s)
    (detected := s.detects samples.refp) other
  have timed {e : Event} (timer : OfTimer e) := mem_tickWork_timed (s := u) (before := s)
    (detected := s.detects samples.refp) timer
  rw [work]
  clear_value u
  refine ⟨?_, ?_, ?_, fun l => ⟨?_, ?_, ?_, ?_⟩, ?_, ?_, ?_, ?_, ?_, ?_, fun i => ?_, ?_, fun p => ?_⟩
  · rw [untimed fun ⟨_, timer⟩ => Bool.false_ne_true timer]
    simp [calRun_due_eq]
  · rw [untimed fun ⟨_, timer⟩ => Bool.false_ne_true timer, ← running, ← window]
    simp [calRun_due_eq]
  · rw [untimed fun ⟨_, timer⟩ => Bool.false_ne_true timer, ← crossing]
    simp [calRun_due_eq]
  · rw [timed (e := .pulseEnd l) ⟨l, beq_self_eq_true l⟩, running]
    simp [dueStep_pulseEnd]
  · rw [timed (e := .waveHighEnd l) ⟨l, beq_self_eq_true l⟩, running]
    simp [dueStep_waveHighEnd]
  · rw [timed (e := .waveCycleEnd l) ⟨l, beq_self_eq_true l⟩, running]
    simp [dueStep_waveCycleEnd]
  · rw [timed (e := .waveCompletion l) ⟨l, beq_self_eq_true l⟩, running]
    simp [dueStep_waveCompletion]
  · rw [untimed fun ⟨_, timer⟩ => Bool.false_ne_true timer]
    simp [calRun_due_eq]
  · rw [untimed fun ⟨_, timer⟩ => Bool.false_ne_true timer]
    simp [calRun_due_eq]
  · rw [untimed fun ⟨_, timer⟩ => Bool.false_ne_true timer]
    simp [calRun_due_eq]
  · rw [untimed fun ⟨_, timer⟩ => Bool.false_ne_true timer]
    simp [calRun_due_eq]
  · rw [untimed fun ⟨_, timer⟩ => Bool.false_ne_true timer]
    simp [calRun_due_eq]
  · rw [untimed fun ⟨_, timer⟩ => Bool.false_ne_true timer]
    simp [calRun_due_eq]
  · rw [untimed fun ⟨_, timer⟩ => Bool.false_ne_true timer]
    simp [calRun_due_eq]
  · rw [untimed fun ⟨_, timer⟩ => Bool.false_ne_true timer, ← detects_iff]
    simp [calRun_due_eq]
  · rw [untimed fun ⟨_, timer⟩ => Bool.false_ne_true timer]
    simp [calRun_due_eq]

end Sys2Proof.Machine
end

section
/-! SUPPORT. The samples and the timers of a tick (R108, R112, R114, R124 to R126, R146). -/

namespace Sys2Proof.Machine

open Sys2Proof.Safety

variable {s : State}

/-! ### A tick of a line's timer (R112, R114) -/

section
variable {ln : LineUnit} {l : Line}

theorem timerTick_of_due (due : ln.dueStep l ≠ none) : ln.timerTick l = ln := if_neg due

theorem timerTick_of_idle (idle : ln.activity = .steady ∨ ln.activity = .calibrating) : ln.timerTick l = ln := by
  unfold LineUnit.timerTick
  obtain steady | calibrating := idle
  · rw [steady, ite_self]
  · rw [calibrating, ite_self]

theorem timerTick_of_pulsing {r : Nat} (pulsing : ln.activity = .pulsing r) (goesOn : 1 < r) :
    ln.timerTick l = { ln with activity := .pulsing (r - 1) } := by
  have nothing : ln.dueStep l = none := by
    rw [LineUnit.dueStep, pulsing]
    exact if_neg (Nat.not_le.mpr goesOn)
  rw [LineUnit.timerTick, if_pos nothing, pulsing]

theorem timerTick_of_pulseEnd {r : Nat} (pulsing : ln.activity = .pulsing r) (ends : r ≤ 1) : ln.timerTick l = ln :=
  timerTick_of_due (by rw [dueStep_pulseEnd.mpr ⟨rfl, r, pulsing, ends⟩]; exact Option.some_ne_none _)

theorem timerTick_of_waving {c : WaveCopy} (waving : ln.activity = .waving c) (low : c.position + 1 ≠ c.high)
    (within : c.position + 1 < c.period) :
    ln.timerTick l = { ln with activity := .waving { c with position := c.position + 1 } } := by
  have nothing : ln.dueStep l = none := by
    rw [LineUnit.dueStep, waving]
    exact (if_neg low).trans (if_neg (Nat.not_le.mpr within))
  rw [LineUnit.timerTick, if_pos nothing, waving]

theorem timerTick_of_waveStep {c : WaveCopy} (waving : ln.activity = .waving c)
    (turns : c.position + 1 = c.high ∨ c.period ≤ c.position + 1) : ln.timerTick l = ln := by
  refine timerTick_of_due ?_
  rw [LineUnit.dueStep, waving]
  dsimp only
  split_ifs with high cycle
  · exact Option.some_ne_none _
  · exact Option.some_ne_none _
  · exact Option.some_ne_none _
  · exact (turns.elim high cycle).elim

end

/-! ### A sample of an input (R124 to R126) -/

section
variable {ch : Channel} {level : Bool} {stamp : Stamp}

/-- The candidate after one more sample opposite to the accepted level (R125). -/
def Channel.lengthened (ch : Channel) (stamp : Stamp) : Candidate :=
  match ch.candidate with
  | none => { length := 1, stamp := stamp }
  | some c => { length := c.length + 1, stamp := c.stamp }

theorem filterSample_of_fresh (fresh : ch.fresh = true) :
    ch.filterSample level stamp = { ch with accepted := level, fresh := false, candidate := none } := if_pos fresh

theorem filterSample_of_same (seen : ch.fresh = false) (same : level = ch.accepted) :
    ch.filterSample level stamp = { ch with candidate := none } := by
  rw [Channel.filterSample, if_neg (by rw [seen]; exact Bool.false_ne_true), if_pos same]

theorem filterSample_of_opposite (seen : ch.fresh = false) (opposite : level ≠ ch.accepted) :
    ch.filterSample level stamp =
      if filterSamples ch.filter ≤ (ch.lengthened stamp).length then
        { ch with candidate := none, ready := some (ch.lengthened stamp).stamp }
      else { ch with candidate := some (ch.lengthened stamp) } := by
  rw [Channel.filterSample, if_neg (by rw [seen]; exact Bool.false_ne_true), if_neg opposite, Channel.lengthened]
  cases ch.candidate <;> rfl

end

/-- The stamp that the sample of input i gets at a tick (R126). -/
def State.tickStamp (s : State) (samples : TickInput) (i : Input) : Stamp :=
  { time := s.countTick.time, phase := samples.changes[i].getLast?.getD 0, notRunning := s.timebase != .running
    refLocked := s.rdu.state == .locked }

theorem sampledInputs_input (s : State) (samples : TickInput) (i : Input) : (s.sampledInputs samples)[i] =
    Channel.filterSample { s.inputs[i] with
        prevSample := s.inputs[i].sample
        sample := samples.levels.getLsbD i.val
        lastChange := samples.changes[i].getLast? } (samples.levels.getLsbD i.val) (s.tickStamp samples i) := by
  have inputs : (s.countTick.rduTick s samples.refp).inputs = s.inputs := by
    change s.countTick.inputs = _
    rw [countTick_frame]
  have stamped (phase : Option Phase) : (s.countTick.rduTick s samples.refp).stamp phase =
      { time := s.countTick.time, phase := phase.getD 0, notRunning := s.timebase != .running
        refLocked := s.rdu.state == .locked } := by
    have timebase : s.countTick.timebase = s.timebase := by rw [countTick_frame]
    have rdu : s.countTick.rdu = s.rdu := by rw [countTick_frame]
    change Stamp.mk s.countTick.tickTime _ (!s.countTick.timebase == .running) (s.countTick.rdu.state == .locked)
      = Stamp.mk _ _ (!s.timebase == .running) _
    rw [countTick_tickTime, timebase, rdu]
  rw [State.sampledInputs, State.sampleInputs]
  dsimp only
  rw [each_get, inputs, stamped]
  rfl

/-- Settles O44. -/
theorem tickSamplesAndTimers : Obligations.TickSamplesAndTimers := by
  intro samples s u
  have time : u.time = s.placePins.countTick.time := (countAll_keepsClock s.placePins samples).time
  have frame : u = { s.placePins.countTick with
      rdu := s.placePins.tickedRdu samples.refp
      inputs := s.placePins.sampledInputs samples
      lines := if s.placePins.countTick.running then each s.placePins.countTick.lines fun l ln => ln.timerTick l
        else s.placePins.countTick.lines
      calRun := s.placePins.countTick.calRun.map CalRun.tick
      work := u.work } := countAll_eq s.placePins samples
  have tickTime : u.tickTime = u.time := counted_tickTime s.placePins samples
  have rdu : u.rdu = s.placePins.tickedRdu samples.refp := by rw [frame]
  have running : s.running = true ↔ s.timebase = .running := decide_eq_true_iff
  clear_value u
  rw [countTick_frame] at frame
  refine ⟨?_, ?_, ?_, tickTime, ?_, ?_⟩
  · intro l ln
    have line : u.lines[l] = if s.running then ln.timerTick l else ln := by
      rw [frame]
      change (if s.running then each s.placePins.lines fun l ln => ln.timerTick l else s.placePins.lines)[l] = _
      have pinned : s.placePins.lines[l] = ln := each_get _ _ l
      split_ifs
      · rw [each_get, pinned]
      · exact pinned
    have kept (same : ln.timerTick l = ln) : u.lines[l] = ln := by rw [line, same, ite_self]
    refine ⟨fun stopped => ?_, fun idle => kept (timerTick_of_idle idle), fun r runs pulsing goesOn => ?_,
      fun r pulsing ends => kept (timerTick_of_pulseEnd pulsing ends),
      fun c waving turns => kept (timerTick_of_waveStep waving turns), fun c runs waving low within => ?_⟩
    · rw [line, if_neg (mt running.mp stopped)]
    · rw [line, if_pos (running.mpr runs), timerTick_of_pulsing pulsing goesOn]
    · rw [line, if_pos (running.mpr runs), timerTick_of_waving waving low within]
  · intro i ch stamp run wanted
    have stampIs : s.placePins.tickStamp samples i = stamp := by
      rw [State.tickStamp, ← time]
      rfl
    have input : u.inputs[i] = ch.filterSample ch.sample stamp := by
      rw [frame]
      change (s.placePins.sampledInputs samples)[i] = _
      rw [sampledInputs_input, stampIs]
      rfl
    have runIs : ch.lengthened stamp = run := rfl
    have wantedIs : filterSamples ch.filter = wanted := rfl
    rw [input]
    refine ⟨filterSample_of_fresh, filterSample_of_same, fun seen opposite short => ?_, fun seen opposite long => ?_⟩
    · rw [filterSample_of_opposite seen opposite, runIs, wantedIs, if_neg (Nat.not_le.mpr short)]
    · rw [filterSample_of_opposite seen opposite, runIs, wantedIs, if_pos long]
  · rw [frame]
    rfl
  · rw [rdu, tickedRdu_eq, time]
    rfl
  · rw [frame]
    exact ⟨rfl, rfl, rfl, rfl, rfl, rfl, rfl, rfl, rfl, rfl, rfl, rfl, rfl, rfl, rfl⟩

end Sys2Proof.Machine
end

section
/-! SUPPORT. Due steps come first: before a row, and before a step of the same tick (R31, R136, R148, R151; log 1). -/

namespace Sys2Proof.Machine

open Sys2Proof.Safety

variable {s t : State}

/-! ### A step and the steps before it -/

theorem takeOne_takeOne (s : State) (e : Event) : (s.takeOne e).takeOne e = s.takeOne e :=
  State.takeOne_of_not_due (State.not_mem_takeOne s e)

theorem takeAll_of_not_due : ∀ {es : List Event}, (∀ e ∈ es, e ∉ s.work) → es.foldl State.takeOne s = s
  | [], _ => rfl
  | e :: es, skip => by
    rw [List.foldl_cons, State.takeOne_of_not_due (skip e List.mem_cons_self)]
    exact takeAll_of_not_due fun d mem => skip d (List.mem_cons_of_mem e mem)

theorem takeEvent_of_mem {e : Event} (due : e ∈ s.work) :
    s.takeEvent e = ((stepsBefore e).foldl State.takeOne (if mayAbort e then s.endJudgedRun else s)).takeOne e :=
  if_pos (List.contains_iff_mem.mpr due)

theorem takeEvent_first {e : Event} (first : stepsBefore e = []) (calm : mayAbort e = false) :
    s.takeEvent e = s.takeOne e := by
  by_cases due : e ∈ s.work
  · rw [takeEvent_of_mem due, first, calm]
    rfl
  · rw [State.takeEvent_of_not_due due, State.takeOne_of_not_due due]

/-- A step that has been taken need not be taken again before another one. -/
theorem takeEvent_takeOne {d e : Event} (only : stepsBefore e = [d]) (due : e ∈ s.work) (other : ¬OfTimer e) (ne : e ≠ d)
    (calm : mayAbort e = true → s.runEnding = false ∧ (s.takeOne d).runEnding = false) :
    s.takeEvent e = (s.takeOne d).takeEvent e := by
  have start {u : State} (ends : mayAbort e = true → u.runEnding = false) :
      (if mayAbort e then u.endJudgedRun else u) = u := by
    split_ifs with aborts
    · exact State.endJudgedRun_of_not_ending (ends aborts)
    · rfl
  rw [takeEvent_of_mem due, takeEvent_of_mem ((mem_takeOne other ne).mpr due), only, start fun a => (calm a).1,
    start fun a => (calm a).2, List.foldl_cons, List.foldl_cons, takeOne_takeOne]

/-! ### The end of a judged run -/

theorem runEnding_of_work_iff (calRunEnd : Event.calRunEnd ∈ t.work ↔ Event.calRunEnd ∈ s.work)
    (calStepJudged : Event.calStepJudged ∈ t.work ↔ Event.calStepJudged ∈ s.work) : t.runEnding = s.runEnding := by
  rw [Bool.eq_iff_iff, runEnding_iff, runEnding_iff, calRunEnd, calStepJudged]

theorem runEnding_of_taken (taken : Event.calRunEnd ∉ s.work) : s.runEnding = false :=
  Bool.eq_false_iff.mpr fun ending => taken (runEnding_iff.mp ending).1

theorem endJudgedRun_runEnding (s : State) : s.endJudgedRun.runEnding = false := by
  unfold State.endJudgedRun
  split_ifs with ending
  · exact runEnding_of_taken (State.not_mem_takeOne s _)
  · exact Bool.eq_false_iff.mpr ending

theorem takeOne_runEnding {e : Event} (ne : e ≠ .calRunEnd) (ne' : e ≠ .calStepJudged) :
    (s.takeOne e).runEnding = s.runEnding :=
  runEnding_of_work_iff (mem_takeOne (fun ⟨_, timer⟩ => Bool.false_ne_true timer) ne.symm)
    (mem_takeOne (fun ⟨_, timer⟩ => Bool.false_ne_true timer) ne'.symm)

theorem mem_endJudgedRun {e : Event} (other : ¬OfTimer e) (ne : e ≠ .calRunEnd) :
    e ∈ s.endJudgedRun.work ↔ e ∈ s.work := by
  unfold State.endJudgedRun
  split_ifs
  · exact mem_takeOne other ne
  · exact Iff.rfl

/-- The end of a judged run that has been taken need not be taken again before a step that can abort. -/
theorem takeEvent_endJudgedRun {e : Event} (aborts : mayAbort e = true) (other : ¬OfTimer e) (ne : e ≠ .calRunEnd)
    (due : e ∈ s.work) : s.takeEvent e = s.endJudgedRun.takeEvent e := by
  rw [takeEvent_of_mem due, takeEvent_of_mem ((mem_endJudgedRun other ne).mpr due), if_pos aborts, if_pos aborts,
    State.endJudgedRun_of_not_ending (endJudgedRun_runEnding s)]

/-! ### The edges of the inputs in ascending order (R136) -/

theorem not_ofTimer_edgeAccepted (i : Input) : ¬OfTimer (.edgeAccepted i) :=
  fun ⟨_, timer⟩ => Bool.false_ne_true timer

/-- The inputs before an input of the list are those before j, then j, then those between. -/
theorem stepsBefore_edgeAccepted {i j : Input} (lt : j < i) : ∃ before after,
    stepsBefore (.edgeAccepted i) = before ++ .edgeAccepted j :: after ∧ ∀ e ∈ before, ∃ h, h < j ∧ e = .edgeAccepted h := by
  have mem : j ∈ (List.finRange 8).filter fun h => decide (h < i) :=
    List.mem_filter.mpr ⟨List.mem_finRange j, decide_eq_true lt⟩
  obtain ⟨low, high, split⟩ := List.append_of_mem mem
  have ascending := (List.pairwise_lt_finRange 8).filter fun h => decide (h < i)
  rw [split] at ascending
  refine ⟨low.map .edgeAccepted, high.map .edgeAccepted, ?_, fun e there => ?_⟩
  · rw [stepsBefore, split, List.map_append]
    rfl
  · obtain ⟨h, below, rfl⟩ := List.mem_map.mp there
    exact ⟨h, (List.pairwise_append.mp ascending).2.2 h below j List.mem_cons_self, rfl⟩

/-- With the lowest edge taken, the edges before a higher one are the others. -/
theorem takeEvent_edgeAccepted {i j : Input} (due : Event.edgeAccepted i ∈ s.work) (lt : j < i)
    (lowest : ∀ h : Input, h < j → Event.edgeAccepted h ∉ s.work) :
    s.takeEvent (.edgeAccepted i) = (s.takeEvent (.edgeAccepted j)).takeEvent (.edgeAccepted i) := by
  by_cases first : Event.edgeAccepted j ∈ s.work
  · obtain ⟨before, after, steps, low⟩ := stepsBefore_edgeAccepted lt
    have skips {u : State} (kept : ∀ e ∈ u.work, e ∈ s.work) : before.foldl State.takeOne u = u :=
      takeAll_of_not_due fun e mem there => by
        obtain ⟨h, below, rfl⟩ := low e mem
        exact lowest h below (kept _ there)
    have ended : ∀ e ∈ s.endJudgedRun.work, e ∈ s.work := fun e mem => (State.endJudgedRun_dues s).subset mem
    have one : s.takeEvent (.edgeAccepted j) = s.endJudgedRun.takeOne (.edgeAccepted j) := by
      rw [takeEvent_of_mem first]
      refine congrArg (fun u : State => u.takeOne _) (takeAll_of_not_due fun e mem there => ?_)
      obtain ⟨h, below, rfl⟩ := List.mem_map.mp mem
      exact lowest h (of_decide_eq_true (List.mem_filter.mp below).2) (ended _ there)
    have aborts : mayAbort (.edgeAccepted i) = true := rfl
    have ne : Event.edgeAccepted i ≠ .edgeAccepted j := fun eq => lt.ne (Event.edgeAccepted.inj eq).symm
    have due' : Event.edgeAccepted i ∈ (s.endJudgedRun.takeOne (.edgeAccepted j)).work :=
      (mem_takeOne (not_ofTimer_edgeAccepted i) ne).mpr
        ((mem_endJudgedRun (not_ofTimer_edgeAccepted i) Event.noConfusion).mpr due)
    have calm : (s.endJudgedRun.takeOne (.edgeAccepted j)).runEnding = false :=
      (takeOne_runEnding Event.noConfusion Event.noConfusion).trans (endJudgedRun_runEnding s)
    rw [one, takeEvent_of_mem due, takeEvent_of_mem due', if_pos aborts, if_pos aborts,
      State.endJudgedRun_of_not_ending calm, steps, List.foldl_append, List.foldl_append, skips ended,
      skips fun e mem => ended e ((State.takeOne_dues _ _).subset mem), List.foldl_cons, List.foldl_cons, takeOne_takeOne]
  · rw [State.takeEvent_of_not_due first]

/-! ### The rows that settle first -/

theorem takeFrame_settle (p : Port) (args : List Byte) (k : State → State) (s : State) :
    takeFrame p args k s.settle = takeFrame p args k s := by
  rw [takeFrame, State.settle_settle, takeFrame]

/-- A row that is neither a due step nor a tick nor the fall of PnRST acts on the settled state. -/
theorem exec_settle {c : Instr} (first : settlesFirst c = true) (s : State) : exec c s = exec c s.settle := by
  cases request : requestOf c with
  | some q =>
    rw [exec_of_request request, exec_of_request request, takeCommand, takeCommand, takeFrame_settle]
  | none =>
    cases c with
    | badCommand p code args =>
      rw [exec, execBadCommand, exec, execBadCommand, takeFrame_settle]
    | badFrame p code args check => rw [exec, execBadFrame, exec, execBadFrame, takeFrame_settle]
    | pncsFall p => rw [exec, execPncsFall, exec, execPncsFall, State.settle_settle]
    | pncsRise p clocked => rw [exec, execPncsRise, exec, execPncsRise, State.settle_settle]
    | lastResponseByteSent p =>
      rw [exec, execLastResponseByteSent, exec, execLastResponseByteSent, State.settle_settle]
    | argumentLengthOver24 p code length =>
      rw [exec, execArgumentLengthOver24, exec, execArgumentLengthOver24, State.settle_settle]
    | pnrstRise p => rw [exec, execPnrstRise, exec, execPnrstRise, State.settle_settle]
    | deviceReset cause =>
      unfold exec execDeviceReset
      rw [State.settle_settle]
    | nrstRise => rw [exec, execNrstRise, exec, execNrstRise, State.settle_settle]
    | retainedReset => rw [exec, execRetainedReset, exec, execRetainedReset, State.settle_settle]
    | mainSupplyLoss => rw [exec, execMainSupplyLoss, exec, execMainSupplyLoss, State.settle_settle]
    | vddrLoss => rw [exec, execVddrLoss, exec, execVddrLoss, State.settle_settle]
    | _ => first | exact absurd first Bool.false_ne_true | exact absurd request (Option.some_ne_none _)

/-- Settles O3. -/
theorem dueStepsComeFirst : Obligations.DueStepsComeFirst := by
  have row {c : Instr} {e : Event} {s t : State} (is : eventOf c = some e) (taken : exec c s = .next t) :
      s.takeEvent e = t := by
    rw [exec_of_event is] at taken
    exact Host.Outcome.next.inj taken
  refine ⟨fun s idle => ?_, fun c s first => ⟨exec_settle first s, State.settle_work s⟩, fun c e s is out => ?_,
    fun s t due judging taken => ?_, fun i j s t due lt lowest taken => ?_, fun s t due taken => ?_,
    fun s t due judged taken => ?_⟩
  · rw [step, idle]
  · rw [exec_of_event is, State.takeEvent_of_not_due out]
  · have crossed : s.takeOne .crossing = t := (takeEvent_first rfl rfl).symm.trans (row (c := .crossing) rfl taken)
    have calm := runEnding_of_judging judging
    rw [exec_of_event (c := .refpEdge) rfl, exec_of_event (c := .refpEdge) rfl, ← crossed]
    refine congrArg _ (takeEvent_takeOne rfl due not_ofTimer_refpEdge Event.noConfusion fun _ => ⟨calm, ?_⟩)
    exact (takeOne_runEnding Event.noConfusion Event.noConfusion).trans calm
  · rw [exec_of_event (c := .edgeAccepted i) rfl, exec_of_event (c := .edgeAccepted i) rfl,
      ← row (c := .edgeAccepted j) rfl taken, takeEvent_edgeAccepted due lt lowest]
  · have judged : s.takeOne .calStepJudged = t := (takeEvent_first rfl rfl).symm.trans (row (c := .calStepJudged) rfl taken)
    rw [exec_of_event (c := .calRunEnd) rfl, exec_of_event (c := .calRunEnd) rfl, ← judged]
    exact congrArg _ (takeEvent_takeOne rfl due (fun ⟨_, timer⟩ => Bool.false_ne_true timer) Event.noConfusion
      fun aborts => (Bool.false_ne_true aborts).elim)
  · have ended : s.endJudgedRun = t := by
      rw [← row (c := .calRunEnd) rfl taken, takeEvent_of_mem due, State.endJudgedRun,
        if_pos (runEnding_iff.mpr ⟨due, judged⟩)]
      exact congrArg (fun u : State => u.takeOne .calRunEnd) (State.takeOne_of_not_due judged).symm
    refine ⟨fun edge => ?_, fun i edge => ?_⟩
    · rw [exec_of_event (c := .refpEdge) rfl, exec_of_event (c := .refpEdge) rfl, ← ended,
        takeEvent_endJudgedRun rfl not_ofTimer_refpEdge Event.noConfusion edge]
    · rw [exec_of_event (c := .edgeAccepted i) rfl, exec_of_event (c := .edgeAccepted i) rfl, ← ended,
        takeEvent_endJudgedRun rfl (not_ofTimer_edgeAccepted i) Event.noConfusion edge]

end Sys2Proof.Machine
end

section
/-! SUPPORT. A port reset: what the releases of a port make of the part, resource by resource (R46 to R54, R172). -/

namespace Sys2Proof.Machine

open Sys2Proof.Safety

variable {s t u v : State} {p : Port}

/-! ### What no release touches -/

/-- Supplies, counters, reference, log and commands stand as before. -/
def State.KeepsBackground (s t : State) : Prop :=
  { t with claims := s.claims, slots := s.slots, gens := s.gens, dueOrder := s.dueOrder, lines := s.lines
           inputs := s.inputs, calRun := s.calRun, results := s.results, ports := s.ports, work := s.work } = s

theorem keepsBackground_trans (h : s.KeepsBackground t) (k : t.KeepsBackground u) : s.KeepsBackground u :=
  Eq.trans (congrArg (fun x : State =>
    { x with claims := s.claims, slots := s.slots, gens := s.gens, dueOrder := s.dueOrder, lines := s.lines
             inputs := s.inputs, calRun := s.calRun, results := s.results, ports := s.ports, work := s.work }) k) h

theorem keepsBackground_closed : OperationClosed State.KeepsBackground where
  refl _ := rfl
  trans := keepsBackground_trans
  offer _ _ _ := rfl
  finishRun _ _ _ _ := rfl
  cancelTimer _ _ := rfl
  updLine _ _ _ := rfl
  table _ _ _ _ := rfl

theorem grant_keepsBackground (s : State) (r : Resource) : s.KeepsBackground (s.grant r) := by
  unfold State.grant
  split <;> rfl

/-! ### The entries of the port -/

/-- Some entries of port p are gone, each with its generation incremented; the others and their order stay. -/
def EntriesGone (p : Port) (s v : State) (gone : Slot → Bool) : Prop :=
  (∀ k, gone k = true → s.slots[k].any (fun e => e.owner == p) = true)
    ∧ (∀ k, v.slots[k] = if gone k then none else s.slots[k])
    ∧ (∀ k, v.gens[k] = if gone k then s.gens[k] + 1 else s.gens[k])
    ∧ v.dueOrder = s.dueOrder.filter fun k => !gone k

theorem entriesGone_refl (p : Port) (s : State) : EntriesGone p s s fun _ => false :=
  ⟨fun _ gone => (Bool.false_ne_true gone).elim, fun _ => rfl, fun _ => rfl, by simp⟩

theorem entriesGone_of_same {gone : Slot → Bool} (h : EntriesGone p s v gone) (slots : u.slots = v.slots)
    (gens : u.gens = v.gens) (order : u.dueOrder = v.dueOrder) : EntriesGone p s u gone := by
  obtain ⟨own, slots', gens', order'⟩ := h
  refine ⟨own, fun k => ?_, fun k => ?_, order.trans order'⟩
  · rw [slots, slots']
  · rw [gens, gens']

/-- Gone before or gone now. -/
theorem ite_gone {α : Type} (before now : Bool) (f : α → α) (x : α) :
    (if (!before && now) = true then f (if before = true then f x else x) else if before = true then f x else x)
      = if (before || now) = true then f x else x := by
  cases before <;> cases now <;> rfl

/-- A removal of entries of port p. -/
theorem entriesGone_removeWhere {gone : Slot → Bool} (h : EntriesGone p s v gone) {f : Entry → Bool}
    (own : ∀ e, f e = true → (e.owner == p) = true) :
    EntriesGone p s (v.removeWhere f) fun k => gone k || s.slots[k].any f := by
  obtain ⟨mine, slots, gens, order⟩ := h
  have any (k : Slot) : v.slots[k].any f = (!gone k && s.slots[k].any f) := by
    rw [slots]
    cases gone k <;> rfl
  refine ⟨fun k leaves => ?_, fun k => ?_, fun k => ?_, ?_⟩
  · obtain before | now := Bool.or_eq_true_iff.mp leaves
    · exact mine k before
    · cases there : s.slots[k] with
      | none =>
        rw [there] at now
        exact now
      | some e =>
        rw [there] at now
        exact own e now
  · rw [removeWhere_slots, any, slots]
    exact ite_gone _ _ (fun _ => none) _
  · rw [removeWhere_eq]
    dsimp only
    rw [each_get, any, gens]
    exact ite_gone _ _ (fun g => g + 1) _
  · rw [removeWhere_eq]
    dsimp only
    rw [order, List.filter_filter]
    refine List.filter_congr fun k _ => ?_
    rw [any]
    cases gone k <;> simp

end Sys2Proof.Machine
end

section
/-! SUPPORT. The releases of a port reset, one resource after the other (R46 to R54, R150, R172). -/

namespace Sys2Proof.Machine

open Sys2Proof.Safety

variable {s u v w : State} {p : Port} {done : List Resource} {r : Resource}

/-- A line that the port held, after its release: at rest, with the fine delay a run on it had saved (R48, R150). -/
def State.restingLine (s : State) (l : Line) : LineUnit :=
  { s.lines[l] with
    level := s.lines[l].idle
    activity := .steady
    fineDelay := match s.calRun with
      | some c => if c.line = l then c.savedDelay else s.lines[l].fineDelay
      | none => s.lines[l].fineDelay }

theorem restingLine_of_run {c : CalRun} (run : s.calRun = some c) : s.restingLine c.line =
    { s.lines[c.line] with level := s.lines[c.line].idle, activity := .steady, fineDelay := c.savedDelay } := by
  rw [State.restingLine, run]
  dsimp only
  rw [if_pos rfl]

theorem restingLine_of_no_run {l : Line} (other : ∀ c, s.calRun = some c → c.line ≠ l) :
    s.restingLine l = { s.lines[l] with level := s.lines[l].idle, activity := .steady } := by
  rw [State.restingLine]
  cases run : s.calRun with
  | none => rfl
  | some c =>
    dsimp only
    rw [if_neg (other c run)]

/-- What the cascades of the resources in `done` make of state s. -/
structure Cascaded (p : Port) (s : State) (done : List Resource) (v : State) : Prop where
  background : s.KeepsBackground v
  entries : ∃ gone, EntriesGone p s v gone
  lines : ∀ l : Line, v.lines[l] =
    if lineResource l ∈ done ∧ s.claims[lineResource l].holder = some p then s.restingLine l else s.lines[l]
  aborted : ∀ c, s.calRun = some c → c.requester = p → lineResource c.line ∈ done →
    v.calRun = none ∧ v.results = (upd s.results c.line fun _ => abortedRecord c .portReset)
      ∧ v.inputs = upd s.inputs c.input fun ch => { ch with candidate := none }
  goesOn : (∀ c, s.calRun = some c → c.requester = p → lineResource c.line ∉ done) →
    v.calRun = s.calRun ∧ v.results = s.results ∧ v.inputs = s.inputs

theorem cascaded_refl (p : Port) (s : State) : Cascaded p s [] s where
  background := rfl
  entries := ⟨_, entriesGone_refl p s⟩
  lines _ := (if_neg fun is => List.not_mem_nil is.1).symm
  aborted _ _ _ mem := (List.not_mem_nil mem).elim
  goesOn _ := ⟨rfl, rfl, rfl⟩

theorem cascaded_of_same (h : Cascaded p s done v) (background : v.KeepsBackground u) (slots : u.slots = v.slots)
    (gens : u.gens = v.gens) (order : u.dueOrder = v.dueOrder) (lines : u.lines = v.lines) (run : u.calRun = v.calRun)
    (results : u.results = v.results) (inputs : u.inputs = v.inputs) : Cascaded p s done u where
  background := keepsBackground_trans h.background background
  entries := h.entries.imp fun _ gone => entriesGone_of_same gone slots gens order
  lines l := by rw [lines, h.lines]
  aborted c is own mem := by
    rw [run, results, inputs]
    exact h.aborted c is own mem
  goesOn off := by
    rw [run, results, inputs]
    exact h.goesOn off

/-- A run that is still on is that of s, and if port p asked for it, its line is not released yet. -/
theorem run_of_cascaded {c : CalRun} (h : Cascaded p s done v) (run : v.calRun = some c) :
    s.calRun = some c ∧ (c.requester = p → lineResource c.line ∉ done) := by
  have off : ∀ d, s.calRun = some d → d.requester = p → lineResource d.line ∉ done := fun d is own mem => by
    rw [(h.aborted d is own mem).1] at run
    cases run
  have is := (h.goesOn off).1.symm.trans run
  exact ⟨is, off c is⟩

/-- A resource of another kind, or of another port, cascades nothing. -/
theorem cascaded_skip (ok : CalibrationOk s) (h : Cascaded p s done v)
    (other : ∀ l, r = lineResource l → s.claims[r].holder ≠ some p) : Cascaded p s (done ++ [r]) v where
  background := h.background
  entries := h.entries
  lines l := by
    rw [h.lines]
    refine if_congr ?_ rfl rfl
    rw [List.mem_append, List.mem_singleton]
    refine ⟨fun is => ⟨.inl is.1, is.2⟩, fun is => ⟨is.1.resolve_right fun eq => ?_, is.2⟩⟩
    exact other l eq.symm (eq ▸ is.2)
  aborted c is own mem := by
    obtain ⟨-, line, -⟩ := ok.1 c is
    refine h.aborted c is own ((List.mem_append.mp mem).resolve_right fun last => ?_)
    have eq := List.mem_singleton.mp last
    exact other c.line eq.symm (eq ▸ own ▸ line)
  goesOn off := h.goesOn fun c is own mem => off c is own (List.mem_append_left _ mem)

theorem releaseReason_own {c : CalRun} (run : v.calRun = some c) (own : c.requester = p) :
    releaseReason true p v = .portReset := by
  rw [releaseReason, run]
  exact if_pos ⟨rfl, own⟩

theorem mem_done_snoc {l k : Line} (ne : k ≠ l) : lineResource k ∈ done ++ [lineResource l] ↔ lineResource k ∈ done := by
  rw [List.mem_append, List.mem_singleton]
  exact or_iff_left fun eq => ne (Fin.ext (congrArg (fun r : Resource => r.val) eq))

/-- The cascade of a line that the port holds (R48, R122, R150). -/
theorem cascaded_line {l : Line} (ok : CalibrationOk s) (h : Cascaded p s done v) (fresh : lineResource l ∉ done)
    (mine : s.claims[lineResource l].holder = some p) :
    Cascaded p s (done ++ [lineResource l]) (v.cascadeLine true p l) ∧ (v.cascadeLine true p l).ports = v.ports := by
  have here : v.lines[l] = s.lines[l] := (h.lines l).trans (if_neg fun is => fresh is.1)
  have whole := cascadeLine_eq (byReset := true) (p := p) (s := v) (l := l) rfl
  have background : s.KeepsBackground (v.cascadeLine true p l) := by
    rw [← cascade_line]
    exact keepsBackground_trans h.background (keepsBackground_closed.cascade v true p _)
  have entries : ∃ gone, EntriesGone p s (v.cascadeLine true p l) gone := by
    obtain ⟨gone, is⟩ := h.entries
    obtain ⟨slots, gens, order⟩ := abortOn_table v l (releaseReason true p v)
    have stopped := entriesGone_of_same (u := ((v.abortOn l (releaseReason true p v)).cancelTimer l).updLine l
      fun ln => { ln with level := ln.idle, activity := .steady }) is slots gens order
    exact ⟨_, entriesGone_removeWhere stopped fun e on => (Bool.and_eq_true_iff.mp on).1⟩
  have others (k : Line) (ne : k ≠ l) : (v.cascadeLine true p l).lines[k] =
      if lineResource k ∈ done ++ [lineResource l] ∧ s.claims[lineResource k].holder = some p then s.restingLine k
      else s.lines[k] := by
    rw [whole]
    dsimp only
    rw [upd_other _ _ ne.symm, abortOn_other _ ne, h.lines, if_congr (and_congr_left' (mem_done_snoc ne)) rfl rfl]
  have last : lineResource l ∈ done ++ [lineResource l] := List.mem_append_right _ List.mem_cons_self
  have whose : ∀ c, s.calRun = some c → c.line = l → c.requester = p := fun c is eq => by
    obtain ⟨-, line, -⟩ := ok.1 c is
    subst eq
    rw [mine] at line
    exact (Option.some.inj line).symm
  cases on : v.calibratesLine l with
  | true =>
    obtain ⟨c, run, rfl⟩ := calibratesLine_iff.mp on
    obtain ⟨is, -⟩ := run_of_cascaded h run
    have own := whose c is rfl
    obtain ⟨-, results, inputs⟩ := h.goesOn fun d same own' mem => by
      rw [is] at same
      cases same
      exact fresh mem
    have abort : v.abortOn c.line (releaseReason true p v)
        = v.finishRun c c.savedDelay (c.record .aborted (some .portReset)) := by
      rw [abortOn_of_on _ on, releaseReason_own run own, abortCalibration_of_portReset run]
    rw [abort] at whole
    have rests : (v.cascadeLine true p c.line).lines[c.line] = s.restingLine c.line := by
      rw [whole]
      dsimp only
      rw [upd_same, ← abortCalibration_of_portReset run, abortCalibration_line _ run, if_pos rfl, here,
        restingLine_of_run is]
    refine ⟨⟨background, entries, fun k => ?_, fun d same _ _ => ?_, fun off => (off c is own last).elim⟩, ?_⟩
    · by_cases same : k = c.line
      · subst same
        rw [rests, if_pos ⟨last, mine⟩]
      · exact others k same
    · rw [is] at same
      cases same
      rw [whole, ← results, ← inputs]
      exact ⟨rfl, rfl, rfl⟩
    · rw [whole]
      rfl
  | false =>
    rw [abortOn_of_off _ on] at whole
    have none_on : ∀ c, s.calRun = some c → c.line ≠ l := fun c is eq => by
      have run := (h.goesOn fun d same _ mem => by
        rw [is] at same
        cases same
        exact fresh (eq ▸ mem)).1.trans is
      rw [calibratesLine_iff.mpr ⟨c, run, eq⟩] at on
      cases on
    have run : (v.cascadeLine true p l).calRun = v.calRun := by rw [whole]
    have results : (v.cascadeLine true p l).results = v.results := by rw [whole]
    have inputs : (v.cascadeLine true p l).inputs = v.inputs := by rw [whole]
    refine ⟨⟨background, entries, fun k => ?_, fun c is own mem => ?_, fun off => ?_⟩, by rw [whole]⟩
    · by_cases same : k = l
      · subst same
        rw [if_pos ⟨last, mine⟩, restingLine_of_no_run none_on, whole]
        dsimp only
        rw [upd_same, here]
      · exact others k same
    · rw [run, results, inputs]
      exact h.aborted c is own ((mem_done_snoc (none_on c is)).mp mem)
    · rw [run, results, inputs]
      exact h.goesOn fun c is own mem => off c is own (List.mem_append_left _ mem)

/-- The cascade of an input that the port holds finds its run already aborted with the line of the run (R48, R50). -/
theorem cascaded_input {i : Input} (ok : CalibrationOk s) (h : Cascaded p s done v)
    (mine : s.claims[inputResource i].holder = some p) (lines : ∀ l : Line, lineResource l ∈ done) :
    v.cascadeInput true p i = v := by
  refine if_neg fun diverted => ?_
  obtain ⟨c, run, rfl⟩ := diverted_iff.mp diverted
  obtain ⟨is, line⟩ := run_of_cascaded h run
  obtain ⟨-, -, input, -⟩ := ok.1 c is
  rw [mine] at input
  exact line (Option.some.inj input).symm (lines c.line)

/-! ### The grants -/

/-- The notice that the release of resource r makes for port q (R47). -/
def State.grantTo (s : State) (p q : Port) (c : Client) (r : Resource) : Client :=
  if s.claims[r].holder = some p ∧ s.claims[r].waiters.head? = some q then
    offered c (broadcastNotice .granted s.time (BitVec.ofNat 24 r.val))
  else c

/-- What the grants of the resources in `done` make of state s, ports other than p. -/
structure Granted (p : Port) (s : State) (done : List Resource) (v : State) : Prop where
  claims : ∀ r : Resource, v.claims[r] =
    if r ∈ done ∧ s.claims[r].holder = some p then s.claims[r].passedOn else s.claims[r]
  ports : ∀ q : Port, q ≠ p → v.ports[q] = done.foldl (s.grantTo p q) s.ports[q]

theorem granted_refl (p : Port) (s : State) : Granted p s [] s where
  claims _ := (if_neg fun is => List.not_mem_nil is.1).symm
  ports _ _ := rfl

theorem granted_of_same (h : Granted p s done v) (claims : u.claims = v.claims) (ports : u.ports = v.ports) :
    Granted p s done u where
  claims r := by rw [claims, h.claims]
  ports q ne := by rw [ports, h.ports q ne]

theorem mem_snoc_of_ne {k : Resource} (ne : k ≠ r) : k ∈ done ++ [r] ↔ k ∈ done := by
  rw [List.mem_append, List.mem_singleton]
  exact or_iff_left ne

theorem granted_skip (h : Granted p s done v) (other : s.claims[r].holder ≠ some p) : Granted p s (done ++ [r]) v where
  claims k := by
    rw [h.claims]
    by_cases same : k = r
    · subst same
      rw [if_neg fun is => other is.2, if_neg fun is => other is.2]
    · rw [if_congr (and_congr_left' (mem_snoc_of_ne same)) rfl rfl]
  ports q ne := by
    rw [List.foldl_append, h.ports q ne]
    exact (if_neg fun is => other is.1).symm

/-- The grant of a resource that the port held (R46, R47). -/
theorem granted_grant (ok : ClaimsOk s) (h : Granted p s done v) (fresh : r ∉ done) (mine : s.claims[r].holder = some p)
    (time : v.time = s.time) : Granted p s (done ++ [r]) (v.grant r) := by
  have here : v.claims[r] = s.claims[r] := (h.claims r).trans (if_neg fun is => fresh is.1)
  have last : r ∈ done ++ [r] := List.mem_append_right _ List.mem_cons_self
  have others (k : Resource) (ne : k ≠ r) : v.claims[k] =
      if k ∈ done ++ [r] ∧ s.claims[k].holder = some p then s.claims[k].passedOn else s.claims[k] := by
    rw [h.claims, if_congr (and_congr_left' (mem_snoc_of_ne ne)) rfl rfl]
  obtain ⟨-, -, apart, -⟩ := ok r
  have absent := apart p mine
  cases waiters : s.claims[r].waiters with
  | nil =>
    have alone : v.claims[r].waiters = [] := by rw [here, waiters]
    rw [grant_of_free alone]
    refine ⟨fun k => ?_, fun q ne => ?_⟩
    · by_cases same : k = r
      · subst same
        rw [State.updClaim_claims, upd_same, if_pos ⟨last, mine⟩, ClaimRecord.passedOn, waiters]
      · rw [State.updClaim_claims, upd_other _ _ (Ne.symm same), others k same]
    · rw [List.foldl_append, ← h.ports q ne]
      refine (if_neg fun is => ?_).symm
      rw [waiters] at is
      exact Option.some_ne_none _ is.2.symm
  | cons first rest =>
    have some : v.claims[r].waiters = first :: rest := by rw [here, waiters]
    rw [grant_of_waiter some]
    refine ⟨fun k => ?_, fun q ne => ?_⟩
    · rw [State.offer_claims, State.updClaim_claims]
      by_cases same : k = r
      · subst same
        rw [upd_same, if_pos ⟨last, mine⟩, ClaimRecord.passedOn, waiters]
      · rw [upd_other _ _ (Ne.symm same), others k same]
    · rw [List.foldl_append, ← h.ports q ne, time]
      change _ = s.grantTo p q v.ports[q] r
      rw [State.grantTo, waiters]
      by_cases is : q = first
      · subst is
        rw [offer_port, store_eq_offered, if_pos ⟨mine, rfl⟩]
        rfl
      · rw [offer_port_other _ _ is, if_neg fun both => is (Option.some.inj both.2).symm]
        rfl

end Sys2Proof.Machine
end

section
/-! SUPPORT. A port reset as a whole, by its command and by its pin (R171, R172). -/

namespace Sys2Proof.Machine

open Sys2Proof.Safety

variable {s u v : State} {p : Port} {done : List Resource} {r : Resource}

/-! ### Every resource in ascending number (R53) -/

theorem resource_cases (r : Resource) : (∃ l, r = lineResource l) ∨ (∃ i, r = inputResource i) ∨ r = timeResource := by
  have range := r.isLt
  by_cases line : r.val < 8
  · exact .inl ⟨⟨r.val, line⟩, rfl⟩
  by_cases input : r.val < 16
  · exact .inr (.inl ⟨⟨r.val - 8, by omega⟩, Fin.ext (by simp only [inputResource]; omega)⟩)
  · exact .inr (.inr (Fin.ext (by simp only [timeResource]; omega)))

theorem inputResource_ne_line (i : Input) (l : Line) : inputResource i ≠ lineResource l := fun eq => by
  have values := congrArg (fun r : Resource => r.val) eq
  simp only [inputResource, lineResource] at values
  omega

theorem timeResource_ne_line (l : Line) : timeResource ≠ lineResource l := fun eq => by
  have values : 16 = l.val := congrArg (fun r : Resource => r.val) eq
  omega

/-- The cascade of a resource that the port holds, the lines before it released. -/
theorem cascaded_cascade (ok : CalibrationOk s) (h : Cascaded p s done v) (fresh : r ∉ done)
    (mine : s.claims[r].holder = some p) (lower : ∀ k : Resource, k < r → k ∈ done) :
    Cascaded p s (done ++ [r]) (v.cascade true p r) ∧ (v.cascade true p r).ports = v.ports := by
  obtain ⟨l, rfl⟩ | ⟨i, rfl⟩ | rfl := resource_cases r
  · rw [cascade_line]
    exact cascaded_line ok h fresh mine
  · have lines (l : Line) : lineResource l ∈ done := lower _ (by
      change l.val < i.val + 8
      omega)
    rw [cascade_input, cascaded_input ok h mine lines]
    exact ⟨cascaded_skip ok h fun l eq => (inputResource_ne_line i l eq).elim, rfl⟩
  · rw [cascade_time]
    exact ⟨cascaded_skip ok h fun l eq => (timeResource_ne_line l eq).elim, rfl⟩

theorem cascaded_grant (h : Cascaded p s done v) (r : Resource) : Cascaded p s done (v.grant r) := by
  have same : (v.grant r).slots = v.slots ∧ (v.grant r).gens = v.gens ∧ (v.grant r).dueOrder = v.dueOrder
      ∧ (v.grant r).lines = v.lines ∧ (v.grant r).calRun = v.calRun ∧ (v.grant r).results = v.results
      ∧ (v.grant r).inputs = v.inputs := by
    unfold State.grant
    split <;> exact ⟨rfl, rfl, rfl, rfl, rfl, rfl, rfl⟩
  obtain ⟨slots, gens, order, lines, run, results, inputs⟩ := same
  exact cascaded_of_same h (grant_keepsBackground v r) slots gens order lines run results inputs

/-- One resource of a port reset. -/
theorem released_step (claims : ClaimsOk s) (ok : CalibrationOk s) (h : Cascaded p s done v) (g : Granted p s done v)
    (fresh : r ∉ done) (lower : ∀ k : Resource, k < r → k ∈ done) :
    Cascaded p s (done ++ [r]) (v.releaseHeld p r) ∧ Granted p s (done ++ [r]) (v.releaseHeld p r) := by
  have here : v.claims[r] = s.claims[r] := (g.claims r).trans (if_neg fun is => fresh is.1)
  by_cases mine : s.claims[r].holder = some p
  · have held : v.holds p r = true := (v.holds_iff p r).mpr (by rw [here, mine])
    obtain ⟨cascaded, ports⟩ := cascaded_cascade ok h fresh mine lower
    have time : (v.cascade true p r).time = s.time := (congrArg State.time cascaded.background :)
    have kept : (v.cascade true p r).claims = v.claims := (keptByFiring_closed.cascade v true p r).claims
    rw [State.releaseHeld, if_pos held, State.giveUp]
    exact ⟨cascaded_grant cascaded r, granted_grant claims (granted_of_same g kept ports) fresh mine time⟩
  · have free : ¬v.holds p r = true := fun held => mine (by rw [← here]; exact (v.holds_iff p r).mp held)
    rw [State.releaseHeld, if_neg free]
    exact ⟨cascaded_skip ok h fun _ _ => mine, granted_skip g mine⟩

theorem released_all (claims : ClaimsOk s) (ok : CalibrationOk s) : ∀ (rest done : List Resource) (v : State),
    done ++ rest = List.finRange 17 → Cascaded p s done v → Granted p s done v →
    Cascaded p s (List.finRange 17) (rest.foldl (fun s r => s.releaseHeld p r) v)
      ∧ Granted p s (List.finRange 17) (rest.foldl (fun s r => s.releaseHeld p r) v)
  | [], done, v, all, h, g => by
    rw [List.append_nil] at all
    exact all ▸ ⟨h, g⟩
  | r :: rest, done, v, all, h, g => by
    have ascending := all ▸ List.pairwise_lt_finRange 17
    have split (k : Resource) : k ∈ done ++ r :: rest := all ▸ List.mem_finRange k
    obtain ⟨-, above, below⟩ := List.pairwise_append.mp ascending
    have fresh : r ∉ done := fun mem => lt_irrefl r (below r mem r List.mem_cons_self)
    have lower : ∀ k : Resource, k < r → k ∈ done := fun k lt => by
      refine (List.mem_append.mp (split k)).resolve_right fun mem => ?_
      obtain rfl | later := List.mem_cons.mp mem
      · exact lt_irrefl _ lt
      · exact lt_asymm lt ((List.pairwise_cons.mp above).1 k later)
    obtain ⟨h', g'⟩ := released_step claims ok h g fresh lower
    exact released_all claims ok rest _ _ (by rw [List.append_assoc]; exact all) h' g'

/-! ### The whole of a port reset (R172) -/

theorem cascaded_with (h : Cascaded p s done v) (claims : Vector ClaimRecord 17) (ports : Vector Client 4) :
    Cascaded p s done { v with claims := claims, ports := ports } :=
  cascaded_of_same h rfl rfl rfl rfl rfl rfl rfl rfl

theorem leaveLists_eq (v : State) (p : Port) :
    v.leaveLists p = { v with claims := each v.claims fun _ c => c.leave p } := by rw [State.leaveLists]

theorem leaveLists_cascaded (h : Cascaded p s done v) : Cascaded p s done (v.leaveLists p) := by
  rw [leaveLists_eq]
  generalize (each v.claims fun _ c => c.leave p) = claims
  exact cascaded_with h claims v.ports

theorem leaveLists_claims (v : State) (p : Port) (r : Resource) : (v.leaveLists p).claims[r] = v.claims[r].leave p := by
  have claims : (v.leaveLists p).claims = each v.claims fun _ c => c.leave p := by rw [leaveLists_eq]
  rw [claims, each_get]

theorem leaveLists_ports (v : State) (p : Port) : (v.leaveLists p).ports = v.ports := by rw [leaveLists_eq]

theorem keepsBackground_fields (h : s.KeepsBackground u) :
    (u.vddm = s.vddm ∧ u.vddr = s.vddr ∧ u.nrstLow = s.nrstLow ∧ u.pending = s.pending ∧ u.tickTime = s.tickTime)
      ∧ RetainedStays s u
      ∧ (u.slew = s.slew ∧ u.rdu = s.rdu ∧ u.log = s.log ∧ u.nextSeq = s.nextSeq ∧ u.marker = s.marker) := by
  refine ⟨⟨?_, ?_, ?_, ?_, ?_⟩, ⟨?_, ?_, ?_, ?_, ?_, ?_⟩, ?_, ?_, ?_, ?_, ?_⟩ <;> rw [← h]

/-- Steps 1 and 2 of a port reset. -/
def State.stripped (s : State) (p : Port) : State := (s.releaseAll p).removeWhere fun e => e.owner == p

theorem stripped_spec (claims : ClaimsOk s) (ok : CalibrationOk s) (p : Port) :
    Cascaded p s (List.finRange 17) (s.stripped p)
      ∧ EntriesGone p s (s.stripped p) (fun k => s.slots[k].any fun e => e.owner == p)
      ∧ (∀ r : Resource, (s.stripped p).claims[r] =
          (if s.claims[r].holder = some p then s.claims[r].passedOn else s.claims[r]).leave p)
      ∧ ∀ q : Port, q ≠ p → (s.stripped p).ports[q] = (List.finRange 17).foldl (s.grantTo p q) s.ports[q] := by
  obtain ⟨h, g⟩ := released_all (p := p) claims ok (List.finRange 17) [] s rfl (cascaded_refl p s) (granted_refl p s)
  generalize last : (List.finRange 17).foldl (fun s r => s.releaseHeld p r) s = v at h g
  have left : Cascaded p s (List.finRange 17) (v.leaveLists p) := leaveLists_cascaded h
  have whole : s.stripped p = (v.leaveLists p).removeWhere fun e => e.owner == p := by
    rw [State.stripped, State.releaseAll, last]
  have passed (r : Resource) : (v.leaveLists p).claims[r] =
      (if s.claims[r].holder = some p then s.claims[r].passedOn else s.claims[r]).leave p := by
    rw [leaveLists_claims, g.claims, if_congr (and_iff_right (List.mem_finRange r)) rfl rfl]
  have granted := (leaveLists_ports v p ▸ g.ports : ∀ q : Port, q ≠ p → (v.leaveLists p).ports[q] = _)
  rw [whole]
  generalize v.leaveLists p = b at left passed granted
  have shape := removeWhere_eq (s := b) fun e => e.owner == p
  obtain ⟨gone, is⟩ := left.entries
  have taken := entriesGone_removeWhere is (f := fun e => e.owner == p) fun _ own => own
  have all : (fun k => gone k || s.slots[k].any fun e => e.owner == p) = fun k => s.slots[k].any fun e => e.owner == p :=
    funext fun k => by
      cases before : gone k with
      | false => exact Bool.false_or _
      | true => exact (is.1 k before).symm
  rw [all] at taken
  refine ⟨⟨?_, ⟨_, taken⟩, ?_, ?_, ?_⟩, taken, ?_, ?_⟩
  · exact keepsBackground_trans left.background (keepsBackground_closed.firing.removeEntries _ _)
  · rw [shape]
    exact left.lines
  · rw [shape]
    exact left.aborted
  · rw [shape]
    exact left.goesOn
  · rw [shape]
    exact passed
  · rw [shape]
    exact granted

/-- The run of the port is over with its lines, so step 3 finds none (R152, R172). -/
theorem portReset_eq (claims : ClaimsOk s) (ok : CalibrationOk s) (p : Port) :
    s.portReset p = (s.stripped p).clearPort p := by
  obtain ⟨h, -⟩ := stripped_spec claims ok p
  have no_own : (s.stripped p).abortOwn p = s.stripped p := by
    unfold State.abortOwn
    split
    next c run => exact if_neg fun own => (run_of_cascaded h run).2 own (List.mem_finRange _)
    next => rfl
  rw [State.portReset]
  change ((s.stripped p).abortOwn p).clearPort p = _
  rw [no_own]

/-- What becomes of a claim record: given up by the port, or left by it (R46, R53, R54). -/
theorem leave_eq (ok : ClaimsOk s) (p : Port) (r : Resource) :
    (if s.claims[r].holder = some p then s.claims[r].passedOn else s.claims[r]).leave p =
      if s.claims[r].holder = some p then
        (match s.claims[r].waiters with
          | [] => { holder := none, waiters := [] }
          | w :: rest => { holder := some w, waiters := rest })
      else { holder := s.claims[r].holder, waiters := s.claims[r].waiters.filter fun w => w != p } := by
  obtain ⟨-, -, apart, -⟩ := ok r
  by_cases mine : s.claims[r].holder = some p
  · have absent := apart p mine
    rw [if_pos mine, if_pos mine, ClaimRecord.passedOn]
    cases waiters : s.claims[r].waiters with
    | nil => rfl
    | cons w rest =>
      rw [waiters] at absent
      have others : (rest.filter fun w => w != p) = rest := List.filter_eq_self.mpr fun x mem =>
        bne_iff_ne.mpr fun eq => absent (List.mem_cons_of_mem w (eq ▸ mem))
      exact congrArg (fun ws => ClaimRecord.mk (some w) ws) others
  · rw [if_neg mine, if_neg mine]
    rfl

theorem entriesTaken_of_gone (h : EntriesGone p s u fun k => s.slots[k].any fun e => e.owner == p) :
    EntriesTaken p s u := by
  obtain ⟨-, slots, gens, order⟩ := h
  refine ⟨fun k => ⟨fun ⟨e, there, own⟩ => ?_, fun others => ?_⟩, order⟩
  · have gone : (s.slots[k].any fun e => e.owner == p) = true := by
      rw [there]
      exact beq_iff_eq.mpr own
    rw [slots, gens, if_pos gone, if_pos gone]
    exact ⟨rfl, rfl⟩
  · have stays : ¬(s.slots[k].any fun e => e.owner == p) = true := fun gone => by
      cases there : s.slots[k] with
      | none =>
        rw [there] at gone
        exact Bool.false_ne_true gone
      | some e =>
        rw [there] at gone
        exact others e there (beq_iff_eq.mp gone)
    rw [slots, gens, if_neg stays, if_neg stays]
    exact ⟨rfl, rfl⟩

theorem runsLinesAndGrants_of_cascaded (h : Cascaded p s (List.finRange 17) u)
    (ports : ∀ q : Port, q ≠ p → u.ports[q] = (List.finRange 17).foldl (s.grantTo p q) s.ports[q]) :
    RunsLinesAndGrants p s u := by
  have goesOn (off : ∀ c, s.calRun = some c → c.requester ≠ p) := h.goesOn fun c is own _ => off c is own
  refine ⟨fun c is own => ?_, fun off => ?_, fun l => ⟨fun other => ?_, fun mine => ?_⟩, fun i => ?_, ports⟩
  · obtain ⟨run, results, -⟩ := h.aborted c is own (List.mem_finRange _)
    exact ⟨run, results⟩
  · obtain ⟨run, results, -⟩ := goesOn off
    exact ⟨run, results⟩
  · exact (h.lines l).trans (if_neg fun is => other is.2)
  · exact (h.lines l).trans (if_pos ⟨List.mem_finRange _, mine⟩)
  · cases run : s.calRun with
    | none =>
      obtain ⟨-, -, inputs⟩ := goesOn fun c is => by
        rw [run] at is
        cases is
      rw [inputs]
    | some c =>
      by_cases own : c.requester = p
      · obtain ⟨-, -, inputs⟩ := h.aborted c run own (List.mem_finRange _)
        rw [inputs]
        dsimp only
        by_cases here : c.input = i
        · subst here
          rw [upd_same, if_pos ⟨own, rfl⟩]
        · rw [upd_other _ _ here, if_neg fun both => here both.2]
      · obtain ⟨-, -, inputs⟩ := goesOn fun d is => by
          rw [run] at is
          cases is
          exact own
        rw [inputs]
        dsimp only
        rw [if_neg fun both => own both.1]

theorem portReset_keeps (claims : ClaimsOk s) (ok : CalibrationOk s) (p : Port) :
    PortResetKeeps p s (s.portReset p) := by
  have pins := pinsKept_closed.portReset s p p
  obtain ⟨h, gone, passed, ports⟩ := stripped_spec claims ok p
  have shape : s.portReset p = { s.stripped p with
      ports := upd (s.stripped p).ports p fun c => c.portReset (s.stripped p).nextSeq } := portReset_eq claims ok p
  have back := h.background
  generalize s.stripped p = v at h gone passed ports shape back
  have cleared : Cascaded p s (List.finRange 17) (s.portReset p) := by
    rw [shape]
    exact cascaded_with h _ _
  generalize s.portReset p = u at pins shape cleared ⊢
  have taken := entriesGone_of_same (u := u) gone (by rw [shape]) (by rw [shape]) (by rw [shape])
  obtain ⟨supplies, retained, slew, rdu, log, nextSeq, marker⟩ := keepsBackground_fields cleared.background
  refine ⟨supplies, retained, slew, rdu, log, nextSeq, marker, pins.1, fun r => ?_, entriesTaken_of_gone taken,
    runsLinesAndGrants_of_cascaded cleared fun q ne => ?_⟩
  · have claims' : u.claims = v.claims := by rw [shape]
    rw [claims', passed]
    exact leave_eq claims p r
  · rw [← ports q ne, shape]
    exact upd_other _ _ ne.symm

theorem clearPort_port (v : State) (p : Port) : (v.clearPort p).ports[p] = v.ports[p].portReset v.nextSeq := upd_same _ _ _

/-- What a port reset leaves of the port's own (R172). -/
theorem portReset_clears (claims : ClaimsOk s) (ok : CalibrationOk s) (p : Port) : PortCleared p (s.portReset p) := by
  obtain ⟨-, -, -, -, -, -, -, -, passed, ⟨entries, -⟩, ended, others, -, -, -⟩ := portReset_keeps claims ok p
  refine ⟨fun r => ?_, fun k e there own => ?_, fun c run own => ?_, ?_⟩
  · obtain ⟨-, -, apart, -⟩ := claims r
    rw [passed r]
    split_ifs with mine
    · have absent := apart p mine
      cases waiters : s.claims[r].waiters with
      | nil => exact ⟨(Option.some_ne_none p).symm, List.not_mem_nil⟩
      | cons w rest =>
        rw [waiters] at absent
        obtain ⟨ne, out⟩ := not_or.mp (List.mem_cons.not.mp absent)
        exact ⟨fun eq => ne (Option.some.inj eq).symm, out⟩
    · exact ⟨mine, fun mem => bne_iff_ne.mp (List.mem_filter.mp mem).2 rfl⟩
  · obtain ⟨taken, stays⟩ := entries k
    by_cases mine : ∃ e, s.slots[k] = some e ∧ e.owner = p
    · rw [(taken mine).1] at there
      cases there
    · have same := (stays fun e is own => mine ⟨e, is, own⟩).1
      exact mine ⟨e, same ▸ there, own⟩
  · by_cases mine : ∃ c, s.calRun = some c ∧ c.requester = p
    · obtain ⟨d, is, own'⟩ := mine
      rw [(ended d is own').1] at run
      cases run
    · have same := (others fun d is own' => mine ⟨d, is, own'⟩).1
      exact mine ⟨c, same ▸ run, own⟩
  · rw [portReset_eq claims ok, clearPort_port]
    exact ⟨rfl, rfl, rfl, rfl, rfl, rfl, rfl, rfl, rfl, rfl, rfl, rfl, rfl, rfl⟩

/-! ### By its pin and by its command (R171) -/

/-- The port's own PnRST is no part of what a port reset keeps. -/
theorem portResetKeeps_of_pin {f : Client → Client} (csLow : ∀ c, (f c).csLow = c.csLow)
    (keeps : PortResetKeeps p (s.updPort p f) u) : PortResetKeeps p s u := by
  obtain ⟨supplies, retained, slew, rdu, log, nextSeq, marker, pin, passed, taken, ended, others, lines, inputs, grants⟩ :=
    keeps
  refine ⟨supplies, retained, slew, rdu, log, nextSeq, marker, ?_, passed, taken, ended, others, lines, inputs,
    fun q ne => ?_⟩
  · rw [pin, updPort_port, csLow]
  · rw [grants q ne, State.updPort_ports, upd_other _ _ ne.symm]
    rfl

/-- What is due is no part of what a port reset keeps. -/
theorem portResetKeeps_of_work {g : Event → Bool} (keeps : PortResetKeeps p (s.dropWork g) u) : PortResetKeeps p s u :=
  keeps

theorem portReset_work_of_idle (idle : s.work = []) (p : Port) : (s.portReset p).work = [] :=
  List.sublist_nil.mp (idle ▸ State.portReset_dues s p)

/-- A reset that the pin takes over is due no longer. -/
theorem pnrstFall_settles (high : s.ports[p].rstLow = false) :
    s.dropWork (fun e => e == .portResetTaken p && !s.ports[p].rstLow) = s.dropWork fun e => e == .portResetTaken p := by
  rw [high]
  simp only [Bool.not_false, Bool.and_true]

/-- A pin that is low already takes over nothing. -/
theorem pnrstFall_low (low : s.ports[p].rstLow = true) :
    s.dropWork (fun e => e == .portResetTaken p && !s.ports[p].rstLow) = s := by
  rw [low, State.dropWork]
  simp only [Bool.not_true, Bool.and_false, Bool.not_false, List.filter_true]

theorem holdPortInReset_active (active : s.active = true) :
    s.holdPortInReset p = (s.updPort p fun c => { c with rstLow := true }).portReset p := by
  have active' : (s.updPort p fun c => { c with rstLow := true }).active = true := active
  rw [State.holdPortInReset]
  rw [if_pos active']

theorem holdPortInReset_dormant (dormant : s.active = false) :
    s.holdPortInReset p = s.updPort p fun c => { c with rstLow := true, inReset := true } := by
  have dormant' : (s.updPort p fun c => { c with rstLow := true }).active = false := dormant
  rw [State.holdPortInReset]
  rw [dormant', if_neg Bool.false_ne_true, updPort_updPort]

/-- The reset of a port whose pin falls. -/
theorem pinReset_spec (claims : ClaimsOk s) (ok : CalibrationOk s) (active : s.active = true) (idle : s.work = []) :
    PortCleared p (s.holdPortInReset p) ∧ PortResetKeeps p s (s.holdPortInReset p)
      ∧ (s.holdPortInReset p).ports[p].rstLow = true ∧ (s.holdPortInReset p).work = [] := by
  rw [holdPortInReset_active active]
  have claims' : ClaimsOk (s.updPort p fun c => { c with rstLow := true }) := claims
  have ok' : CalibrationOk (s.updPort p fun c => { c with rstLow := true }) := ok
  have pin : (s.updPort p fun c => { c with rstLow := true }).ports[p].rstLow = true := by rw [updPort_port]
  have keeps := portReset_keeps claims' ok' p
  have kept := (pinsKept_closed.portReset (s.updPort p fun c => { c with rstLow := true }) p p).2
  have csLow : ∀ c : Client, ({ c with rstLow := true } : Client).csLow = c.csLow := fun _ => rfl
  have still := portReset_work_of_idle (s := s.updPort p fun c => { c with rstLow := true }) idle p
  exact ⟨portReset_clears claims' ok' p, portResetKeeps_of_pin csLow keeps, kept.trans pin, still⟩

/-- Settles O8. -/
theorem portResetClearsPort : Obligations.PortResetClearsPort := by
  intro p s
  have row : exec (.pnrstFall p) s = execPnrstFall p s := rfl
  refine ⟨?_, fun low => ?_, fun claims ok due => ?_⟩
  · intro t high
    have still : t.ports[p].rstLow = false :=
      (settle_pinsKept (s.dropWork fun e => e == .portResetTaken p) p).2.trans high
    have idle : t.work = [] := State.settle_work _
    have fell : exec (.pnrstFall p) s = .next (t.holdPortInReset p) := by
      rw [row, execPnrstFall]
      rw [pnrstFall_settles high, if_neg (by rw [still]; exact Bool.false_ne_true)]
    rw [fell]
    clear_value t
    refine ⟨fun claims ok active => ⟨_, rfl, pinReset_spec claims ok active idle⟩, fun dormant => ?_⟩
    rw [holdPortInReset_dormant dormant]
  · have still : s.settle.ports[p].rstLow = true := (settle_pinsKept s p).2.trans low
    rw [row, execPnrstFall]
    rw [pnrstFall_low low, if_pos still]
  · have claims' : ClaimsOk (s.dropWork fun d => d == .portResetTaken p) := claims
    have ok' : CalibrationOk (s.dropWork fun d => d == .portResetTaken p) := ok
    have keeps := portResetKeeps_of_work (portReset_keeps claims' ok' p)
    have kept := (pinsKept_closed.portReset (s.dropWork fun d => d == .portResetTaken p) p p).2
    have dropped : ((s.dropWork fun d => d == .portResetTaken p).work).Sublist (s.work.erase (.portResetTaken p)) := by
      have out : Event.portResetTaken p ∉ (s.dropWork fun d => d == .portResetTaken p).work := by simp
      have smaller := (State.dropWork_dues s fun d => d == .portResetTaken p).erase (.portResetTaken p)
      rwa [List.erase_of_not_mem out] at smaller
    have taken : exec (.portResetTaken p) s = .next ((s.dropWork fun d => d == .portResetTaken p).portReset p) := by
      rw [exec_due_alone (c := .portResetTaken p) rfl due rfl rfl, State.perform]
    exact ⟨_, taken, portReset_clears claims' ok' p, keeps, kept,
      List.Sublist.trans (State.portReset_dues _ p) dropped⟩

end Sys2Proof.Machine
end
